-- ==== Sys2Proof/Word.lean ====
section
/-! DEFINITION. The word types of the core (spec/00_scope.md R14): bytes, 16-bit words, 14-bit video addresses, pixels. -/
namespace Sys2Proof

/-- A data byte of either CPU, of a port or of video memory (R14). -/
abbrev Byte := BitVec 8

/-- A 16-bit register, address or port number (R14). -/
abbrev Word := BitVec 16

/-- A 14-bit video address, table base or address mask (R14, R60, R64). -/
abbrev VAddr := BitVec 14

/-- One framebuffer pixel: a colour index 0 to 15 (R67). -/
abbrev Pixel := BitVec 4

end Sys2Proof
end

