-- ==== Sys2Proof/Config.lean ====
section
/-! DEFINITION. What an implementation fixes: the configuration record `CFG` of spec/00_scope.md R13, the platform's routing of
addresses and ports (spec/20_memory.md R131, R133), and the free values of the model (opaque constants). -/
namespace Sys2Proof

/-- `CFG.cpu`: which CPU variant the instance has (R13, R30). -/
inductive Cpu where
  | z80
  | m6502
  deriving DecidableEq, Repr, Inhabited

/-- `CFG.order`: the order of the two halves of a driver iteration (R13, R827). -/
inductive Order where
  | cpuThenVdp
  | vdpThenCpu
  deriving DecidableEq, Repr, Inhabited

/-- `CFG.vdp_irq_class`: the CPU interrupt class a VDP request is latched into (R13, R826). -/
inductive IrqClass where
  | nmi
  | int
  deriving DecidableEq, Repr, Inhabited

/-- `CFG.region` (R13, R905). -/
inductive Region where
  | ntsc
  | pal
  deriving DecidableEq, Repr, Inhabited

/-- The line-timing constants: lines of a frame, first active line, vertical-blank boundary line (R13, R751, R905). -/
structure LineConstants where
  totalLines : Nat
  startLine : Nat
  endLine : Nat
  deriving DecidableEq, Repr, Inhabited

/-- The line-timing constants of a region (R905). -/
def Region.lineConstants : Region → LineConstants
  | .ntsc => ⟨262, 43, 235⟩
  | .pal => ⟨313, 67, 259⟩

/-- One colour of the host's palette (R13). -/
structure Rgb where
  red : Byte
  green : Byte
  blue : Byte
  deriving DecidableEq, Repr, Inhabited

/-- The host's brightness scale factor of the backdrop, as a fraction (R13; the form is the model's, log 22). -/
structure Scale where
  numerator : Nat
  denominator : Nat
  deriving DecidableEq, Repr, Inhabited

/-- The derived screen mode `MODE`, in the order of its numbers 0 to 3 (R63). -/
inductive ScreenMode where
  | text
  | graphics1
  | graphics2
  | multicolor
  deriving DecidableEq, Repr, Inhabited

/-- `CFG.mode_decode` as data: the screen mode for each value of the key `k` of R696. -/
structure ModeTable where
  k0 : ScreenMode
  k1 : ScreenMode
  k2 : ScreenMode
  k3 : ScreenMode
  k4 : ScreenMode
  k5 : ScreenMode
  k6 : ScreenMode
  k7 : ScreenMode
  deriving DecidableEq, Repr, Inhabited

/-- The eight VDP control registers `VR0` to `VR7` (R54); also the shape of `CFG.vdp_init` (R13). -/
structure VdpRegs where
  r0 : Byte
  r1 : Byte
  r2 : Byte
  r3 : Byte
  r4 : Byte
  r5 : Byte
  r6 : Byte
  r7 : Byte
  deriving DecidableEq, Repr, Inhabited

/-- Where the platform routes an address or a port (R133, R853): to plain RAM (an address), to one of the VDP's two ports, or
outside the core. -/
inductive Target where
  | ram
  | vdpControl
  | vdpData
  | external
  deriving DecidableEq, Repr, Inhabited

/-- One line of the platform's decoding: it claims every address or port `a` with `a AND mask = value`. DESIGN CHOICE (log 4):
the platform's hooks are described by data. -/
structure Route where
  mask : Word
  value : Word
  target : Target
  deriving DecidableEq, Repr, Inhabited

/-- A request to the CPU core (R823). -/
inductive Request where
  | none
  | nmi
  | int (v : Byte)
  | quit
  deriving DecidableEq, Repr, Inhabited

/-- What a platform hook, or the driver between two iterations, can call of the core: `Inject` and the four port entry points of
the VDP (R10, R824, U12). -/
inductive CoreCall where
  | inject (req : Request)
  | writeControlPort (b : Byte)
  | readControlPort
  | writeDataPort (b : Byte)
  | readDataPort
  deriving DecidableEq, Repr, Inhabited

/-- How the platform answers one hook call outside the core: what it calls of the core meanwhile, and the byte it returns, which a
write ignores (R131, R133, U12). -/
structure HookReply where
  calls : List CoreCall
  answer : Byte
  deriving DecidableEq, Repr, Inhabited

/-- How the platform answers one call of `PollHook`: what it calls of the core meanwhile, and the request it returns (R843, U12). -/
structure PollReply where
  calls : List CoreCall
  answer : Request
  deriving DecidableEq, Repr, Inhabited

/-- `CFG.cyc` (R13, R938): the table values, one list of 256 for each opcode page, and the penalties of R935 and R937. -/
structure CycTables where
  /-- unprefixed opcodes (R930) -/
  main : List Nat
  /-- `0xCB` page (R931) -/
  cb : List Nat
  /-- `0xED` page (R932) -/
  ed : List Nat
  /-- `0xDD` and `0xFD` pages (R933) -/
  xy : List Nat
  /-- `0xDD 0xCB` and `0xFD 0xCB` pages (R934) -/
  xycb : List Nat
  /-- an ignored `0xDD` or `0xFD` byte (R933, R502, R511) -/
  ignoredPrefix : Nat
  /-- `CFG.cyc.z80_illegal` (R932, R821) -/
  z80Illegal : Nat
  djnzTaken : Nat
  jrTaken : Nat
  callTaken : Nat
  retTaken : Nat
  blockRepeat : Nat
  z80Nmi : Nat
  z80IntIm0 : Nat
  z80IntIm1 : Nat
  z80IntIm2 : Nat
  /-- base costs of the 6502 (R936) -/
  m6502 : List Nat
  /-- `CFG.cyc.m6502_illegal` (R936, R822) -/
  m6502Illegal : Nat
  /-- `CFG.cyc.m6502_int` (R936, R845) -/
  m6502Int : Nat
  /-- page crossing of a read-class access (R937) -/
  pageCross : Nat
  /-- taken branch (R937) -/
  branchTaken : Nat
  /-- taken branch into another page (R937) -/
  branchPage : Nat
  deriving DecidableEq, Repr, Inhabited

/-- The configuration record `CFG` (R13) and the platform's routing. Fixed at `Reset`, never written by any rule. `CFG.total_lines`,
`CFG.start_line` and `CFG.end_line` are functions of the region and of a machine's override: `Config.lineConstants`. -/
structure Config where
  cpu : Cpu
  order : Order
  lineCycles : Nat
  trapBadOps : Bool
  sampleAtGraceEnd : Bool
  vdpIrqClass : IrqClass
  vdpIrqVector : Byte
  region : Region
  /-- the constants of a machine that overrides its region's (R905) -/
  lineOverride : Option LineConstants
  maxSprites : Nat
  modeDecode : ModeTable
  statusClearMask : Byte
  vdpInit : VdpRegs
  /-- host data, on which no rule depends (R13, log 22) -/
  palette : List Rgb
  /-- host data, on which no rule depends (R13, log 22) -/
  backdropScale : Scale
  cyc : CycTables
  z80Undoc : Bool
  /-- the first route that claims an address decides; an address no route claims is outside the core -/
  memMap : List Route
  /-- ports; a port no route claims is outside the core -/
  portMap : List Route
  deriving DecidableEq, Repr, Inhabited

/-- The line-timing constants in force: chosen from `CFG.region` (R900, R905), unless the machine overrides them (R905). -/
def Config.lineConstants (c : Config) : LineConstants := c.lineOverride.getD c.region.lineConstants

/-- `CFG.total_lines` (R13, R905). -/
def Config.totalLines (c : Config) : Nat := c.lineConstants.totalLines

/-- `CFG.start_line` (R13, R905). -/
def Config.startLine (c : Config) : Nat := c.lineConstants.startLine

/-- `CFG.end_line` (R13, R751, R905). -/
def Config.endLine (c : Config) : Nat := c.lineConstants.endLine

/-- Free value (R38, R366, U3): the byte whose bits 5 and 3 `BIT b,(HL)` leaves in `F`. No body: nothing constrains it. -/
opaque Config.freeFlags : Nat → Byte

/-- Free value (R131, R133, U12): what a platform hook does and answers once the scripted replies are used up. -/
opaque Config.hookReply : Nat → HookReply

/-- Free value (R843, U12): what `PollHook` does and answers once the scripted replies are used up. -/
opaque Config.pollReply : Nat → PollReply

/-- What R13 and R751 require of a configuration: 4 to 32 sprites a line, an active window of 192 lines inside the frame, a positive
cycle count per line. -/
def Config.wf (c : Config) : Bool :=
  decide (4 ≤ c.maxSprites) && decide (c.maxSprites ≤ 32) && decide (c.endLine = c.startLine + 192)
    && decide (c.endLine < c.totalLines) && decide (0 < c.lineCycles)

end Sys2Proof
end

