-- ==== Sys2Proof/Machine/Bits.lean ====
section
/-! DEFINITION. Bit-field, byte-order and sign-extension helpers (notation of spec/00_scope.md section 5). -/
namespace Sys2Proof

/-- `hi || lo`: the 16-bit value with high byte `hi` and low byte `lo`. -/
def mk16 (hi lo : Byte) : Word := hi ++ lo

/-- `hi(v)`, bits 15..8. -/
def hi8 (v : Word) : Byte := v.extractLsb' 8 8

/-- `lo(v)`, bits 7..0. -/
def lo8 (v : Word) : Byte := v.extractLsb' 0 8

/-- `sext_8(v)` as a 16-bit two's-complement value, ready for arithmetic modulo 2^16. -/
def sext8 (v : Byte) : Word := v.signExtend 16

/-- `zext_8(v)` as a 16-bit value. -/
def zext8 (v : Byte) : Word := v.setWidth 16

/-- The low nibble of a byte as a number. -/
def loNib (v : Byte) : Nat := (v.extractLsb' 0 4).toNat

/-- How many of the eight bits are 1. -/
def popCount (v : Byte) : Nat :=
  (v.getLsbD 0).toNat + (v.getLsbD 1).toNat + (v.getLsbD 2).toNat + (v.getLsbD 3).toNat
    + (v.getLsbD 4).toNat + (v.getLsbD 5).toNat + (v.getLsbD 6).toNat + (v.getLsbD 7).toNat

/-- `parity(v)`: true when `v` has an even number of 1 bits (spec/00_scope.md section 5, R290). -/
def parity (v : Byte) : Bool := popCount v % 2 == 0

/-- `1 << b` for a bit number `b` (R365, R368, R369). -/
def bitMask (b : BitVec 3) : Byte := 1#8 <<< b.toNat

/-- The byte with `b` inserted as bit 0 of a left shift, or as bit 7 of a right shift, is built from this single bit. -/
def boolByte (b : Bool) : Byte := if b then 1 else 0

end Sys2Proof
end

