-- ==== Sys2Proof/Machine/OpcodeMap.lean ====
section
/-! DEFINITION. Which opcode bytes are entries of a page and which are illegal (spec/30_encoding.md R180, R181, R204), and the
fields of an opcode byte (R172). -/
namespace Sys2Proof

/-- `x = op[7:6]` (R172). -/
def fieldX (op : Byte) : Nat := (op.extractLsb' 6 2).toNat

/-- `y = op[5:3]` (R172). -/
def fieldY (op : Byte) : Nat := (op.extractLsb' 3 3).toNat

/-- `z = op[2:0]` (R172). -/
def fieldZ (op : Byte) : Nat := (op.extractLsb' 0 3).toNat

/-- `p = op[5:4]` (R172). -/
def fieldP (op : Byte) : Nat := (op.extractLsb' 4 2).toNat

/-- `q = op[3]` (R172). -/
def fieldQ (op : Byte) : Nat := (op.extractLsb' 3 1).toNat

/-- The 178 undefined second bytes of the `0xED` page (R181, R510). -/
def edUndefined (op : Byte) : Bool :=
  let v := op.toNat
  v ≤ 0x3F || v == 0x77 || v == 0x7F || (0x80 ≤ v && v ≤ 0x9F) || (0xA4 ≤ v && v ≤ 0xA7) || (0xAC ≤ v && v ≤ 0xAF)
    || (0xB4 ≤ v && v ≤ 0xB7) || (0xBC ≤ v && v ≤ 0xBF) || 0xC0 ≤ v

/-- The 85 opcodes of the `0xDD` and `0xFD` pages and the `0xCB` sub-page (R180). -/
def xyEntry (op : Byte) : Bool :=
  let v := op.toNat
  v == 0x09 || v == 0x19 || v == 0x29 || v == 0x39 || (0x21 ≤ v && v ≤ 0x26) || (0x2A ≤ v && v ≤ 0x2E) || (0x34 ≤ v && v ≤ 0x36)
    || (0x44 ≤ v && v ≤ 0x46) || (0x4C ≤ v && v ≤ 0x4E) || (0x54 ≤ v && v ≤ 0x56) || (0x5C ≤ v && v ≤ 0x5E)
    || (0x60 ≤ v && v ≤ 0x75) || v == 0x77 || (0x7C ≤ v && v ≤ 0x7E)
    || (0x84 ≤ v && v ≤ 0x86) || (0x8C ≤ v && v ≤ 0x8E) || (0x94 ≤ v && v ≤ 0x96) || (0x9C ≤ v && v ≤ 0x9E)
    || (0xA4 ≤ v && v ≤ 0xA6) || (0xAC ≤ v && v ≤ 0xAE) || (0xB4 ≤ v && v ≤ 0xB6) || (0xBC ≤ v && v ≤ 0xBE)
    || v == 0xCB || v == 0xE1 || v == 0xE3 || v == 0xE5 || v == 0xE9 || v == 0xF9

/-- The illegal 6502 opcode bytes below `0x80` (R204). -/
def illegal6502Low : List Nat :=
  [0x02, 0x03, 0x04, 0x07, 0x0B, 0x0C, 0x0F, 0x12, 0x13, 0x14, 0x17, 0x1A, 0x1B, 0x1C, 0x1F, 0x22, 0x23, 0x27, 0x2B, 0x2F,
   0x32, 0x33, 0x34, 0x37, 0x3A, 0x3B, 0x3C, 0x3F, 0x42, 0x43, 0x44, 0x47, 0x4B, 0x4F, 0x52, 0x53, 0x54, 0x57, 0x5A, 0x5B,
   0x5C, 0x5F, 0x62, 0x63, 0x64, 0x67, 0x6B, 0x6F, 0x72, 0x73, 0x74, 0x77, 0x7A, 0x7B, 0x7C, 0x7F]

/-- The illegal 6502 opcode bytes from `0x80` (R204). -/
def illegal6502High : List Nat :=
  [0x80, 0x82, 0x83, 0x87, 0x89, 0x8B, 0x8F, 0x92, 0x93, 0x97, 0x9B, 0x9C, 0x9E, 0x9F, 0xA3, 0xA7, 0xAB, 0xAF, 0xB2, 0xB3,
   0xB7, 0xBB, 0xBF, 0xC2, 0xC3, 0xC7, 0xCB, 0xCF, 0xD2, 0xD3, 0xD4, 0xD7, 0xDA, 0xDB, 0xDC, 0xDF, 0xE2, 0xE3, 0xE7, 0xEB,
   0xEF, 0xF2, 0xF3, 0xF4, 0xF7, 0xFA, 0xFB, 0xFC, 0xFF]

/-- Whether a byte is one of the 105 illegal opcode bytes of the 6502 variant (R204, R648). -/
def illegal6502 (op : Byte) : Bool := illegal6502Low.contains op.toNat || illegal6502High.contains op.toNat

end Sys2Proof
end

