-- ==== Sys2Proof/Syntax.lean ====
section
/-! DEFINITION. The instruction set: one constructor per row of spec/opcode_table.json, 197 of the Z80 (names in `z`) and 152 of
the 6502 (names in `m`). Operands are the fields of the row (spec/30_encoding.md R172 to
R177, R201). The rows with operands come first, then those without, each in the table's order. -/
namespace Sys2Proof

/-- The 8-bit register code `r`, less code 6, which is memory (R173). -/
inductive Reg8 where
  | b | c | d | e | h | l | a
  deriving DecidableEq, Repr, Inhabited

/-- The 16-bit register codes `dd` and `ss` (R174). -/
inductive RegSS where
  | bc | de | hl | sp
  deriving DecidableEq, Repr, Inhabited

/-- The 16-bit register code `qq` of `PUSH` and `POP` (R174). -/
inductive RegQQ where
  | bc | de | hl | af
  deriving DecidableEq, Repr, Inhabited

/-- The 16-bit register code `pp` of `ADD XY,pp` (R174). -/
inductive RegPP where
  | bc | de | xy | sp
  deriving DecidableEq, Repr, Inhabited

/-- `XY`: the index register a `0xDD` (`IX`) or `0xFD` (`IY`) byte selects (R171). -/
inductive XYReg where
  | ix | iy
  deriving DecidableEq, Repr, Inhabited

/-- The half of an index register: code 4 is `XYH`, code 5 is `XYL` (R173, R503). -/
inductive Half where
  | hi | lo
  deriving DecidableEq, Repr, Inhabited

/-- The source of `LD XYH,r'` and `LD XYL,r'`: codes 4 and 5 mean the halves of the same index register (R503). -/
inductive XYOp where
  | b | c | d | e | xyh | xyl | a
  deriving DecidableEq, Repr, Inhabited

/-- The condition code `cc` of `JP`, `CALL`, `RET` (R175). -/
inductive Cond8 where
  | nz | z | nc | c | po | pe | p | m
  deriving DecidableEq, Repr, Inhabited

/-- The condition code of `JR cc` (R175). -/
inductive Cond4 where
  | nz | z | nc | c
  deriving DecidableEq, Repr, Inhabited

/-- The rotate and shift code `rot` (R176). -/
inductive Rot where
  | rlc | rrc | rl | rr | sla | sra | sll | srl
  deriving DecidableEq, Repr, Inhabited

/-- The instructions of both CPU variants. Each constructor names its row of spec/opcode_table.json and the rule of its meaning. -/
inductive Instr where
  /-- DJNZ e [R407] -/
  | zDjnz (e : Byte)
  /-- JR e [R403] -/
  | zJr (e : Byte)
  /-- JR cc,e [R404] -/
  | zJrCc (cc : Cond4) (e : Byte)
  /-- LD dd,nn [R249] -/
  | zLdDdNn (dd : RegSS) (nn : Word)
  /-- ADD HL,ss [R315] -/
  | zAddHlSs (ss : RegSS)
  /-- LD (nn),HL [R254] -/
  | zLdMemNnHl (nn : Word)
  /-- LD (nn),A [R244] -/
  | zLdMemNnA (nn : Word)
  /-- LD HL,(nn) [R251] -/
  | zLdHlMemNn (nn : Word)
  /-- LD A,(nn) [R241] -/
  | zLdAMemNn (nn : Word)
  /-- INC ss [R319] -/
  | zIncSs (ss : RegSS)
  /-- DEC ss [R321] -/
  | zDecSs (ss : RegSS)
  /-- INC r [R304] -/
  | zIncR (r : Reg8)
  /-- DEC r [R307] -/
  | zDecR (r : Reg8)
  /-- LD r,n [R232] -/
  | zLdRN (r : Reg8) (n : Byte)
  /-- LD (HL),n [R237] -/
  | zLdMemHlN (n : Byte)
  /-- LD r,r' [R231] -/
  | zLdRR (r : Reg8) (r' : Reg8)
  /-- LD r,(HL) [R233] -/
  | zLdRMemHl (r : Reg8)
  /-- LD (HL),r [R235] -/
  | zLdMemHlR (r : Reg8)
  /-- ADD A,r [R296] -/
  | zAddAR (r : Reg8)
  /-- ADD A,n [R296] -/
  | zAddAN (n : Byte)
  /-- ADC A,r [R297] -/
  | zAdcAR (r : Reg8)
  /-- ADC A,n [R297] -/
  | zAdcAN (n : Byte)
  /-- SUB r [R298] -/
  | zSubR (r : Reg8)
  /-- SUB n [R298] -/
  | zSubN (n : Byte)
  /-- SBC A,r [R299] -/
  | zSbcAR (r : Reg8)
  /-- SBC A,n [R299] -/
  | zSbcAN (n : Byte)
  /-- AND r [R300] -/
  | zAndR (r : Reg8)
  /-- AND n [R300] -/
  | zAndN (n : Byte)
  /-- XOR r [R301] -/
  | zXorR (r : Reg8)
  /-- XOR n [R301] -/
  | zXorN (n : Byte)
  /-- OR r [R302] -/
  | zOrR (r : Reg8)
  /-- OR n [R302] -/
  | zOrN (n : Byte)
  /-- CP r [R303] -/
  | zCpR (r : Reg8)
  /-- CP n [R303] -/
  | zCpN (n : Byte)
  /-- RET cc [R411] -/
  | zRetCc (cc : Cond8)
  /-- POP qq [R261] -/
  | zPopQq (qq : RegQQ)
  /-- JP cc,nn [R402] -/
  | zJpCcNn (cc : Cond8) (nn : Word)
  /-- JP nn [R401] -/
  | zJpNn (nn : Word)
  /-- OUT (n),A [R465] -/
  | zOutNA (n : Byte)
  /-- IN A,(n) [R459] -/
  | zInAN (n : Byte)
  /-- CALL cc,nn [R409] -/
  | zCallCcNn (cc : Cond8) (nn : Word)
  /-- PUSH qq [R259] -/
  | zPushQq (qq : RegQQ)
  /-- CALL nn [R408] -/
  | zCallNn (nn : Word)
  /-- RST p [R414] -/
  | zRst (t : BitVec 3)
  /-- RLC r [R355] -/
  | zRlcR (r : Reg8)
  /-- RRC r [R357] -/
  | zRrcR (r : Reg8)
  /-- RL r [R356] -/
  | zRlR (r : Reg8)
  /-- RR r [R358] -/
  | zRrR (r : Reg8)
  /-- SLA r [R359] -/
  | zSlaR (r : Reg8)
  /-- SRA r [R360] -/
  | zSraR (r : Reg8)
  /-- SLL r [R504] -/
  | zSllR (r : Reg8)
  /-- SRL r [R361] -/
  | zSrlR (r : Reg8)
  /-- BIT b,r [R365] -/
  | zBitBR (b : BitVec 3) (r : Reg8)
  /-- BIT b,(HL) [R366] -/
  | zBitBMemHl (b : BitVec 3)
  /-- RES b,r [R369] -/
  | zResBR (b : BitVec 3) (r : Reg8)
  /-- RES b,(HL) [R369] -/
  | zResBMemHl (b : BitVec 3)
  /-- SET b,r [R368] -/
  | zSetBR (b : BitVec 3) (r : Reg8)
  /-- SET b,(HL) [R368] -/
  | zSetBMemHl (b : BitVec 3)
  /-- IN r,(C) [R460] -/
  | zInRC (r : Reg8)
  /-- OUT (C),r [R466] -/
  | zOutCR (r : Reg8)
  /-- SBC HL,ss [R317] -/
  | zSbcHlSs (ss : RegSS)
  /-- ADC HL,ss [R316] -/
  | zAdcHlSs (ss : RegSS)
  /-- LD (nn),dd [R255] -/
  | zLdMemNnDd (dd : RegSS) (nn : Word)
  /-- LD dd,(nn) [R252] -/
  | zLdDdMemNn (dd : RegSS) (nn : Word)
  /-- NEG (copy) [R507] -/
  | zNegCopy (y : BitVec 3)
  /-- RETN (copy) [R507] -/
  | zRetnCopy (y : BitVec 3)
  /-- ILLEGAL ED op [R510] -/
  | zIllegalEd (op : Byte)
  /-- ADD XY,pp [R318] -/
  | zAddXyPp (xy : XYReg) (pp : RegPP)
  /-- LD XY,nn [R250] -/
  | zLdXyNn (xy : XYReg) (nn : Word)
  /-- LD (nn),XY [R256] -/
  | zLdMemNnXy (xy : XYReg) (nn : Word)
  /-- INC XY [R320] -/
  | zIncXy (xy : XYReg)
  /-- INC XYH/XYL [R503] -/
  | zIncXyHalf (xy : XYReg) (l : Half)
  /-- DEC XYH/XYL [R503] -/
  | zDecXyHalf (xy : XYReg) (l : Half)
  /-- LD XYH/XYL,n [R503] -/
  | zLdXyHalfN (xy : XYReg) (l : Half) (n : Byte)
  /-- LD XY,(nn) [R253] -/
  | zLdXyMemNn (xy : XYReg) (nn : Word)
  /-- DEC XY [R322] -/
  | zDecXy (xy : XYReg)
  /-- INC (XY+d) [R306] -/
  | zIncMemXy (xy : XYReg) (d : Byte)
  /-- DEC (XY+d) [R309] -/
  | zDecMemXy (xy : XYReg) (d : Byte)
  /-- LD (XY+d),n [R238] -/
  | zLdMemXyN (xy : XYReg) (d : Byte) (n : Byte)
  /-- LD r,(XY+d) [R234] -/
  | zLdRMemXy (xy : XYReg) (r : Reg8) (d : Byte)
  /-- LD (XY+d),r [R236] -/
  | zLdMemXyR (xy : XYReg) (r : Reg8) (d : Byte)
  /-- LD XYH/XYL,r' [R503] -/
  | zLdXyHalfR (xy : XYReg) (l : Half) (r' : XYOp)
  /-- LD r,XYH/XYL [R503] -/
  | zLdRXyHalf (xy : XYReg) (r : Reg8) (l : Half)
  /-- ADD A,(XY+d) [R296] -/
  | zAddAMemXy (xy : XYReg) (d : Byte)
  /-- ADD A,XYH/XYL [R503] -/
  | zAddAXyHalf (xy : XYReg) (l : Half)
  /-- ADC A,(XY+d) [R297] -/
  | zAdcAMemXy (xy : XYReg) (d : Byte)
  /-- ADC A,XYH/XYL [R503] -/
  | zAdcAXyHalf (xy : XYReg) (l : Half)
  /-- SUB (XY+d) [R298] -/
  | zSubMemXy (xy : XYReg) (d : Byte)
  /-- SUB XYH/XYL [R503] -/
  | zSubXyHalf (xy : XYReg) (l : Half)
  /-- SBC A,(XY+d) [R299] -/
  | zSbcAMemXy (xy : XYReg) (d : Byte)
  /-- SBC A,XYH/XYL [R503] -/
  | zSbcAXyHalf (xy : XYReg) (l : Half)
  /-- AND (XY+d) [R300] -/
  | zAndMemXy (xy : XYReg) (d : Byte)
  /-- AND XYH/XYL [R503] -/
  | zAndXyHalf (xy : XYReg) (l : Half)
  /-- XOR (XY+d) [R301] -/
  | zXorMemXy (xy : XYReg) (d : Byte)
  /-- XOR XYH/XYL [R503] -/
  | zXorXyHalf (xy : XYReg) (l : Half)
  /-- OR (XY+d) [R302] -/
  | zOrMemXy (xy : XYReg) (d : Byte)
  /-- OR XYH/XYL [R503] -/
  | zOrXyHalf (xy : XYReg) (l : Half)
  /-- CP (XY+d) [R303] -/
  | zCpMemXy (xy : XYReg) (d : Byte)
  /-- CP XYH/XYL [R503] -/
  | zCpXyHalf (xy : XYReg) (l : Half)
  /-- POP XY [R262] -/
  | zPopXy (xy : XYReg)
  /-- EX (SP),XY [R267] -/
  | zExMemSpXy (xy : XYReg)
  /-- PUSH XY [R260] -/
  | zPushXy (xy : XYReg)
  /-- JP (XY) [R406] -/
  | zJpXy (xy : XYReg)
  /-- LD SP,XY [R258] -/
  | zLdSpXy (xy : XYReg)
  /-- RLC (XY+d) [R355] -/
  | zRlcMemXy (xy : XYReg) (d : Byte)
  /-- RRC (XY+d) [R357] -/
  | zRrcMemXy (xy : XYReg) (d : Byte)
  /-- RL (XY+d) [R356] -/
  | zRlMemXy (xy : XYReg) (d : Byte)
  /-- RR (XY+d) [R358] -/
  | zRrMemXy (xy : XYReg) (d : Byte)
  /-- SLA (XY+d) [R359] -/
  | zSlaMemXy (xy : XYReg) (d : Byte)
  /-- SRA (XY+d) [R360] -/
  | zSraMemXy (xy : XYReg) (d : Byte)
  /-- SLL (XY+d) [R504] -/
  | zSllMemXy (xy : XYReg) (d : Byte)
  /-- SRL (XY+d) [R361] -/
  | zSrlMemXy (xy : XYReg) (d : Byte)
  /-- rot (XY+d) -> r [R505] -/
  | zRotMemXyR (xy : XYReg) (d : Byte) (rot : Rot) (r : Reg8)
  /-- BIT b,(XY+d) [R367] -/
  | zBitBMemXy (xy : XYReg) (d : Byte) (b : BitVec 3)
  /-- BIT b,(XY+d) (z != 6) [R506] -/
  | zBitBMemXyZ (xy : XYReg) (d : Byte) (b : BitVec 3) (z : BitVec 3)
  /-- RES b,(XY+d) [R369] -/
  | zResBMemXy (xy : XYReg) (d : Byte) (b : BitVec 3)
  /-- RES b,(XY+d) -> r [R505] -/
  | zResBMemXyR (xy : XYReg) (d : Byte) (b : BitVec 3) (r : Reg8)
  /-- SET b,(XY+d) [R368] -/
  | zSetBMemXy (xy : XYReg) (d : Byte) (b : BitVec 3)
  /-- SET b,(XY+d) -> r [R505] -/
  | zSetBMemXyR (xy : XYReg) (d : Byte) (b : BitVec 3) (r : Reg8)
  /-- (ignored DD/FD prefix) [R502] -/
  | zPrefix (xy : XYReg) (next : Byte)
  /-- (ignored DD/FD prefix before another DD/FD) [R511] -/
  | zPrefixPrefix (xy : XYReg) (nextXy : XYReg)
  /-- ORA (zp,X) [R574] -/
  | mOraIzx (b : Byte)
  /-- ORA zp [R574] -/
  | mOraZp (b : Byte)
  /-- ASL zp [R620] -/
  | mAslZp (b : Byte)
  /-- ORA #b [R574] -/
  | mOraImm (b : Byte)
  /-- ORA abs [R574] -/
  | mOraAbs (addr : Word)
  /-- ASL abs [R620] -/
  | mAslAbs (addr : Word)
  /-- BPL rel [R635] -/
  | mBpl (b : Byte)
  /-- ORA (zp),Y [R574] -/
  | mOraIzy (b : Byte)
  /-- ORA zp,X [R574] -/
  | mOraZpX (b : Byte)
  /-- ASL zp,X [R620] -/
  | mAslZpX (b : Byte)
  /-- ORA abs,Y [R574] -/
  | mOraAbsY (addr : Word)
  /-- ORA abs,X [R574] -/
  | mOraAbsX (addr : Word)
  /-- ASL abs,X [R620] -/
  | mAslAbsX (addr : Word)
  /-- JSR abs [R627] -/
  | mJsr (addr : Word)
  /-- AND (zp,X) [R572] -/
  | mAndIzx (b : Byte)
  /-- BIT zp [R575] -/
  | mBitZp (b : Byte)
  /-- AND zp [R572] -/
  | mAndZp (b : Byte)
  /-- ROL zp [R622] -/
  | mRolZp (b : Byte)
  /-- AND #b [R572] -/
  | mAndImm (b : Byte)
  /-- BIT abs [R575] -/
  | mBitAbs (addr : Word)
  /-- AND abs [R572] -/
  | mAndAbs (addr : Word)
  /-- ROL abs [R622] -/
  | mRolAbs (addr : Word)
  /-- BMI rel [R633] -/
  | mBmi (b : Byte)
  /-- AND (zp),Y [R572] -/
  | mAndIzy (b : Byte)
  /-- AND zp,X [R572] -/
  | mAndZpX (b : Byte)
  /-- ROL zp,X [R622] -/
  | mRolZpX (b : Byte)
  /-- AND abs,Y [R572] -/
  | mAndAbsY (addr : Word)
  /-- AND abs,X [R572] -/
  | mAndAbsX (addr : Word)
  /-- ROL abs,X [R622] -/
  | mRolAbsX (addr : Word)
  /-- EOR (zp,X) [R573] -/
  | mEorIzx (b : Byte)
  /-- EOR zp [R573] -/
  | mEorZp (b : Byte)
  /-- LSR zp [R621] -/
  | mLsrZp (b : Byte)
  /-- EOR #b [R573] -/
  | mEorImm (b : Byte)
  /-- JMP abs [R625] -/
  | mJmpAbs (addr : Word)
  /-- EOR abs [R573] -/
  | mEorAbs (addr : Word)
  /-- LSR abs [R621] -/
  | mLsrAbs (addr : Word)
  /-- BVC rel [R636] -/
  | mBvc (b : Byte)
  /-- EOR (zp),Y [R573] -/
  | mEorIzy (b : Byte)
  /-- EOR zp,X [R573] -/
  | mEorZpX (b : Byte)
  /-- LSR zp,X [R621] -/
  | mLsrZpX (b : Byte)
  /-- EOR abs,Y [R573] -/
  | mEorAbsY (addr : Word)
  /-- EOR abs,X [R573] -/
  | mEorAbsX (addr : Word)
  /-- LSR abs,X [R621] -/
  | mLsrAbsX (addr : Word)
  /-- ADC (zp,X) [R576] -/
  | mAdcIzx (b : Byte)
  /-- ADC zp [R576] -/
  | mAdcZp (b : Byte)
  /-- ROR zp [R623] -/
  | mRorZp (b : Byte)
  /-- ADC #b [R576] -/
  | mAdcImm (b : Byte)
  /-- JMP (abs) [R626] -/
  | mJmpInd (addr : Word)
  /-- ADC abs [R576] -/
  | mAdcAbs (addr : Word)
  /-- ROR abs [R623] -/
  | mRorAbs (addr : Word)
  /-- BVS rel [R637] -/
  | mBvs (b : Byte)
  /-- ADC (zp),Y [R576] -/
  | mAdcIzy (b : Byte)
  /-- ADC zp,X [R576] -/
  | mAdcZpX (b : Byte)
  /-- ROR zp,X [R623] -/
  | mRorZpX (b : Byte)
  /-- ADC abs,Y [R576] -/
  | mAdcAbsY (addr : Word)
  /-- ADC abs,X [R576] -/
  | mAdcAbsX (addr : Word)
  /-- ROR abs,X [R623] -/
  | mRorAbsX (addr : Word)
  /-- STA (zp,X) [R559] -/
  | mStaIzx (b : Byte)
  /-- STY zp [R561] -/
  | mStyZp (b : Byte)
  /-- STA zp [R559] -/
  | mStaZp (b : Byte)
  /-- STX zp [R560] -/
  | mStxZp (b : Byte)
  /-- STY abs [R561] -/
  | mStyAbs (addr : Word)
  /-- STA abs [R559] -/
  | mStaAbs (addr : Word)
  /-- STX abs [R560] -/
  | mStxAbs (addr : Word)
  /-- BCC rel [R630] -/
  | mBcc (b : Byte)
  /-- STA (zp),Y [R559] -/
  | mStaIzy (b : Byte)
  /-- STY zp,X [R561] -/
  | mStyZpX (b : Byte)
  /-- STA zp,X [R559] -/
  | mStaZpX (b : Byte)
  /-- STX zp,Y [R560] -/
  | mStxZpY (b : Byte)
  /-- STA abs,Y [R559] -/
  | mStaAbsY (addr : Word)
  /-- STA abs,X [R559] -/
  | mStaAbsX (addr : Word)
  /-- LDY #b [R558] -/
  | mLdyImm (b : Byte)
  /-- LDA (zp,X) [R556] -/
  | mLdaIzx (b : Byte)
  /-- LDX #b [R557] -/
  | mLdxImm (b : Byte)
  /-- LDY zp [R558] -/
  | mLdyZp (b : Byte)
  /-- LDA zp [R556] -/
  | mLdaZp (b : Byte)
  /-- LDX zp [R557] -/
  | mLdxZp (b : Byte)
  /-- LDA #b [R556] -/
  | mLdaImm (b : Byte)
  /-- LDY abs [R558] -/
  | mLdyAbs (addr : Word)
  /-- LDA abs [R556] -/
  | mLdaAbs (addr : Word)
  /-- LDX abs [R557] -/
  | mLdxAbs (addr : Word)
  /-- BCS rel [R631] -/
  | mBcs (b : Byte)
  /-- LDA (zp),Y [R556] -/
  | mLdaIzy (b : Byte)
  /-- LDY zp,X [R558] -/
  | mLdyZpX (b : Byte)
  /-- LDA zp,X [R556] -/
  | mLdaZpX (b : Byte)
  /-- LDX zp,Y [R557] -/
  | mLdxZpY (b : Byte)
  /-- LDA abs,Y [R556] -/
  | mLdaAbsY (addr : Word)
  /-- LDY abs,X [R558] -/
  | mLdyAbsX (addr : Word)
  /-- LDA abs,X [R556] -/
  | mLdaAbsX (addr : Word)
  /-- LDX abs,Y [R557] -/
  | mLdxAbsY (addr : Word)
  /-- CPY #b [R582] -/
  | mCpyImm (b : Byte)
  /-- CMP (zp,X) [R580] -/
  | mCmpIzx (b : Byte)
  /-- CPY zp [R582] -/
  | mCpyZp (b : Byte)
  /-- CMP zp [R580] -/
  | mCmpZp (b : Byte)
  /-- DEC zp [R586] -/
  | mDecZp (b : Byte)
  /-- CMP #b [R580] -/
  | mCmpImm (b : Byte)
  /-- CPY abs [R582] -/
  | mCpyAbs (addr : Word)
  /-- CMP abs [R580] -/
  | mCmpAbs (addr : Word)
  /-- DEC abs [R586] -/
  | mDecAbs (addr : Word)
  /-- BNE rel [R634] -/
  | mBne (b : Byte)
  /-- CMP (zp),Y [R580] -/
  | mCmpIzy (b : Byte)
  /-- CMP zp,X [R580] -/
  | mCmpZpX (b : Byte)
  /-- DEC zp,X [R586] -/
  | mDecZpX (b : Byte)
  /-- CMP abs,Y [R580] -/
  | mCmpAbsY (addr : Word)
  /-- CMP abs,X [R580] -/
  | mCmpAbsX (addr : Word)
  /-- DEC abs,X [R586] -/
  | mDecAbsX (addr : Word)
  /-- CPX #b [R581] -/
  | mCpxImm (b : Byte)
  /-- SBC (zp,X) [R578] -/
  | mSbcIzx (b : Byte)
  /-- CPX zp [R581] -/
  | mCpxZp (b : Byte)
  /-- SBC zp [R578] -/
  | mSbcZp (b : Byte)
  /-- INC zp [R583] -/
  | mIncZp (b : Byte)
  /-- SBC #b [R578] -/
  | mSbcImm (b : Byte)
  /-- CPX abs [R581] -/
  | mCpxAbs (addr : Word)
  /-- SBC abs [R578] -/
  | mSbcAbs (addr : Word)
  /-- INC abs [R583] -/
  | mIncAbs (addr : Word)
  /-- BEQ rel [R632] -/
  | mBeq (b : Byte)
  /-- SBC (zp),Y [R578] -/
  | mSbcIzy (b : Byte)
  /-- SBC zp,X [R578] -/
  | mSbcZpX (b : Byte)
  /-- INC zp,X [R583] -/
  | mIncZpX (b : Byte)
  /-- SBC abs,Y [R578] -/
  | mSbcAbsY (addr : Word)
  /-- SBC abs,X [R578] -/
  | mSbcAbsX (addr : Word)
  /-- INC abs,X [R583] -/
  | mIncAbsX (addr : Word)
  /-- ILLEGAL op [R648] -/
  | mIllegal (op : Byte)
  /-- NOP [R415] -/
  | zNop
  /-- EX AF,AF' [R264] -/
  | zExAfAf
  /-- LD (BC),A [R242] -/
  | zLdMemBcA
  /-- LD (DE),A [R243] -/
  | zLdMemDeA
  /-- LD A,(BC) [R239] -/
  | zLdAMemBc
  /-- LD A,(DE) [R240] -/
  | zLdAMemDe
  /-- INC (HL) [R305] -/
  | zIncMemHl
  /-- DEC (HL) [R308] -/
  | zDecMemHl
  /-- RLCA [R351] -/
  | zRlca
  /-- RRCA [R353] -/
  | zRrca
  /-- RLA [R352] -/
  | zRla
  /-- RRA [R354] -/
  | zRra
  /-- DAA [R310] -/
  | zDaa
  /-- CPL [R311] -/
  | zCpl
  /-- SCF [R314] -/
  | zScf
  /-- CCF [R313] -/
  | zCcf
  /-- HALT [R416] -/
  | zHalt
  /-- ADD A,(HL) [R296] -/
  | zAddAMemHl
  /-- ADC A,(HL) [R297] -/
  | zAdcAMemHl
  /-- SUB (HL) [R298] -/
  | zSubMemHl
  /-- SBC A,(HL) [R299] -/
  | zSbcAMemHl
  /-- AND (HL) [R300] -/
  | zAndMemHl
  /-- XOR (HL) [R301] -/
  | zXorMemHl
  /-- OR (HL) [R302] -/
  | zOrMemHl
  /-- CP (HL) [R303] -/
  | zCpMemHl
  /-- RET [R410] -/
  | zRet
  /-- EXX [R265] -/
  | zExx
  /-- JP (HL) [R405] -/
  | zJpHl
  /-- LD SP,HL [R257] -/
  | zLdSpHl
  /-- EX (SP),HL [R266] -/
  | zExMemSpHl
  /-- EX DE,HL [R263] -/
  | zExDeHl
  /-- DI [R417] -/
  | zDi
  /-- EI [R418] -/
  | zEi
  /-- RLC (HL) [R355] -/
  | zRlcMemHl
  /-- RRC (HL) [R357] -/
  | zRrcMemHl
  /-- RL (HL) [R356] -/
  | zRlMemHl
  /-- RR (HL) [R358] -/
  | zRrMemHl
  /-- SLA (HL) [R359] -/
  | zSlaMemHl
  /-- SRA (HL) [R360] -/
  | zSraMemHl
  /-- SLL (HL) [R504] -/
  | zSllMemHl
  /-- SRL (HL) [R361] -/
  | zSrlMemHl
  /-- IN F,(C) [R508] -/
  | zInFC
  /-- OUT (C),0 [R509] -/
  | zOutC0
  /-- NEG [R312] -/
  | zNeg
  /-- RETN [R413] -/
  | zRetn
  /-- RETI [R412] -/
  | zReti
  /-- IM 0 [R419] -/
  | zIm0
  /-- IM 1 [R420] -/
  | zIm1
  /-- IM 2 [R421] -/
  | zIm2
  /-- IM 0 (copy) [R507] -/
  | zIm0Copy4E
  /-- IM 0 (copy) [R507] -/
  | zIm0Copy66
  /-- IM 0 (copy) [R507] -/
  | zIm0Copy6E
  /-- IM 1 (copy) [R507] -/
  | zIm1Copy
  /-- IM 2 (copy) [R507] -/
  | zIm2Copy
  /-- LD I,A [R247] -/
  | zLdIA
  /-- LD R,A [R248] -/
  | zLdRA
  /-- LD A,I [R245] -/
  | zLdAI
  /-- LD A,R [R246] -/
  | zLdAR
  /-- RRD [R364] -/
  | zRrd
  /-- RLD [R363] -/
  | zRld
  /-- LDI [R451] -/
  | zLdi
  /-- CPI [R455] -/
  | zCpi
  /-- INI [R461] -/
  | zIni
  /-- OUTI [R467] -/
  | zOuti
  /-- LDD [R453] -/
  | zLdd
  /-- CPD [R457] -/
  | zCpd
  /-- IND [R463] -/
  | zInd
  /-- OUTD [R469] -/
  | zOutd
  /-- LDIR [R452] -/
  | zLdir
  /-- CPIR [R456] -/
  | zCpir
  /-- INIR [R462] -/
  | zInir
  /-- OTIR [R468] -/
  | zOtir
  /-- LDDR [R454] -/
  | zLddr
  /-- CPDR [R458] -/
  | zCpdr
  /-- INDR [R464] -/
  | zIndr
  /-- OTDR [R470] -/
  | zOtdr
  /-- BRK [R645] -/
  | mBrk
  /-- PHP [R569] -/
  | mPhp
  /-- ASL A [R620] -/
  | mAslA
  /-- CLC [R638] -/
  | mClc
  /-- PLP [R571] -/
  | mPlp
  /-- ROL A [R622] -/
  | mRolA
  /-- SEC [R642] -/
  | mSec
  /-- RTI [R646] -/
  | mRti
  /-- PHA [R568] -/
  | mPha
  /-- LSR A [R621] -/
  | mLsrA
  /-- CLI [R640] -/
  | mCli
  /-- RTS [R628] -/
  | mRts
  /-- PLA [R570] -/
  | mPla
  /-- ROR A [R623] -/
  | mRorA
  /-- SEI [R644] -/
  | mSei
  /-- DEY [R588] -/
  | mDey
  /-- TXA [R564] -/
  | mTxa
  /-- TYA [R565] -/
  | mTya
  /-- TXS [R567] -/
  | mTxs
  /-- TAY [R563] -/
  | mTay
  /-- TAX [R562] -/
  | mTax
  /-- CLV [R641] -/
  | mClv
  /-- TSX [R566] -/
  | mTsx
  /-- INY [R585] -/
  | mIny
  /-- DEX [R587] -/
  | mDex
  /-- CLD [R639] -/
  | mCld
  /-- INX [R584] -/
  | mInx
  /-- NOP [R647] -/
  | mNop
  /-- SED [R643] -/
  | mSed
  deriving DecidableEq, Repr, Inhabited

end Sys2Proof
end

