-- ==== Sys2Proof/WellFormed.lean ====
section
/-! DEFINITION. Which terms of Instr are instructions: the `not` and `in` constraints of the fields of spec/opcode_table.json
(spec/30_encoding.md R220) that the operand types do not carry. -/
namespace Sys2Proof

/-- The operand constraints of the opcode table. Every row not named here has none beyond its operand types. -/
def Instr.wf : Instr → Bool
  | .zNegCopy y => y != 0                                    -- R507: 0xED 0x44 is NEG itself
  | .zRetnCopy y => y != 0 && y != 1                         -- R507: 0xED 0x45 is RETN, 0xED 0x4D is RETI
  | .zIllegalEd op => edUndefined op                         -- R510
  | .zLdRXyHalf _ r _ => r != .h && r != .l                  -- R503: with H or L the destination is a half
  | .zBitBMemXyZ _ _ _ z => z != 6                           -- R506: z = 6 is the documented form
  | .zPrefix _ next => !xyEntry next && next != 0xDD && next != 0xFD   -- R502
  | .mIllegal op => illegal6502 op                           -- R648
  | _ => true

end Sys2Proof
end

