-- ==== Sys2Proof/Decode.lean ====
section
/-! DEFINITION. The decoder, total on any bytes, and the encoder of well-formed instructions, both written from the opcode maps of
spec/30_encoding.md (R170 to R183, R200 to R204). -/
namespace Sys2Proof

/-! ## Field codes -/

/-- Register code `r` (R173). -/
def Reg8.code : Reg8 → BitVec 3
  | .b => 0 | .c => 1 | .d => 2 | .e => 3 | .h => 4 | .l => 5 | .a => 7

/-- Register codes `dd` and `ss` (R174). -/
def RegSS.code : RegSS → BitVec 2
  | .bc => 0 | .de => 1 | .hl => 2 | .sp => 3

/-- Register code `qq` (R174). -/
def RegQQ.code : RegQQ → BitVec 2
  | .bc => 0 | .de => 1 | .hl => 2 | .af => 3

/-- Register code `pp` (R174). -/
def RegPP.code : RegPP → BitVec 2
  | .bc => 0 | .de => 1 | .xy => 2 | .sp => 3

/-- Bit 0 of the codes 4 (`XYH`) and 5 (`XYL`) (R173). -/
def Half.code : Half → BitVec 1
  | .hi => 0 | .lo => 1

/-- The code of the source of `LD XYH,r'` (R503). -/
def XYOp.code : XYOp → BitVec 3
  | .b => 0 | .c => 1 | .d => 2 | .e => 3 | .xyh => 4 | .xyl => 5 | .a => 7

/-- Condition code `cc` (R175). -/
def Cond8.code : Cond8 → BitVec 3
  | .nz => 0 | .z => 1 | .nc => 2 | .c => 3 | .po => 4 | .pe => 5 | .p => 6 | .m => 7

/-- The two-bit condition code of `JR cc` (R175, R404). -/
def Cond4.code : Cond4 → BitVec 2
  | .nz => 0 | .z => 1 | .nc => 2 | .c => 3

/-- Rotate code `rot` (R176). -/
def Rot.code : Rot → BitVec 3
  | .rlc => 0 | .rrc => 1 | .rl => 2 | .rr => 3 | .sla => 4 | .sra => 5 | .sll => 6 | .srl => 7

/-- The byte that selects an index register (R171). -/
def XYReg.px : XYReg → Byte
  | .ix => 0xDD | .iy => 0xFD

/-! ## The encoder -/

/-- The bytes of an instruction in memory order. For the two ignored-prefix rows (format `ZPFX`) the second byte is the look-ahead
byte, which belongs to the next instruction (R183, R220). -/
def encode : Instr → List Byte
  | .zNop => [0x00#8]
  | .zExAfAf => [0x08#8]
  | .zDjnz e => [0x10#8, e]
  | .zJr e => [0x18#8, e]
  | .zJrCc cc e => [0b001#3 ++ cc.code ++ 0b000#3, e]
  | .zLdDdNn dd nn => [0b00#2 ++ dd.code ++ 0b0001#4, lo8 nn, hi8 nn]
  | .zAddHlSs ss => [0b00#2 ++ ss.code ++ 0b1001#4]
  | .zLdMemBcA => [0x02#8]
  | .zLdMemDeA => [0x12#8]
  | .zLdMemNnHl nn => [0x22#8, lo8 nn, hi8 nn]
  | .zLdMemNnA nn => [0x32#8, lo8 nn, hi8 nn]
  | .zLdAMemBc => [0x0A#8]
  | .zLdAMemDe => [0x1A#8]
  | .zLdHlMemNn nn => [0x2A#8, lo8 nn, hi8 nn]
  | .zLdAMemNn nn => [0x3A#8, lo8 nn, hi8 nn]
  | .zIncSs ss => [0b00#2 ++ ss.code ++ 0b0011#4]
  | .zDecSs ss => [0b00#2 ++ ss.code ++ 0b1011#4]
  | .zIncR r => [0b00#2 ++ r.code ++ 0b100#3]
  | .zIncMemHl => [0x34#8]
  | .zDecR r => [0b00#2 ++ r.code ++ 0b101#3]
  | .zDecMemHl => [0x35#8]
  | .zLdRN r n => [0b00#2 ++ r.code ++ 0b110#3, n]
  | .zLdMemHlN n => [0x36#8, n]
  | .zRlca => [0x07#8]
  | .zRrca => [0x0F#8]
  | .zRla => [0x17#8]
  | .zRra => [0x1F#8]
  | .zDaa => [0x27#8]
  | .zCpl => [0x2F#8]
  | .zScf => [0x37#8]
  | .zCcf => [0x3F#8]
  | .zLdRR r r' => [0b01#2 ++ r.code ++ r'.code]
  | .zLdRMemHl r => [0b01#2 ++ r.code ++ 0b110#3]
  | .zLdMemHlR r => [0b01110#5 ++ r.code]
  | .zHalt => [0x76#8]
  | .zAddAR r => [0b10000#5 ++ r.code]
  | .zAddAMemHl => [0x86#8]
  | .zAddAN n => [0xC6#8, n]
  | .zAdcAR r => [0b10001#5 ++ r.code]
  | .zAdcAMemHl => [0x8E#8]
  | .zAdcAN n => [0xCE#8, n]
  | .zSubR r => [0b10010#5 ++ r.code]
  | .zSubMemHl => [0x96#8]
  | .zSubN n => [0xD6#8, n]
  | .zSbcAR r => [0b10011#5 ++ r.code]
  | .zSbcAMemHl => [0x9E#8]
  | .zSbcAN n => [0xDE#8, n]
  | .zAndR r => [0b10100#5 ++ r.code]
  | .zAndMemHl => [0xA6#8]
  | .zAndN n => [0xE6#8, n]
  | .zXorR r => [0b10101#5 ++ r.code]
  | .zXorMemHl => [0xAE#8]
  | .zXorN n => [0xEE#8, n]
  | .zOrR r => [0b10110#5 ++ r.code]
  | .zOrMemHl => [0xB6#8]
  | .zOrN n => [0xF6#8, n]
  | .zCpR r => [0b10111#5 ++ r.code]
  | .zCpMemHl => [0xBE#8]
  | .zCpN n => [0xFE#8, n]
  | .zRetCc cc => [0b11#2 ++ cc.code ++ 0b000#3]
  | .zPopQq qq => [0b11#2 ++ qq.code ++ 0b0001#4]
  | .zRet => [0xC9#8]
  | .zExx => [0xD9#8]
  | .zJpHl => [0xE9#8]
  | .zLdSpHl => [0xF9#8]
  | .zJpCcNn cc nn => [0b11#2 ++ cc.code ++ 0b010#3, lo8 nn, hi8 nn]
  | .zJpNn nn => [0xC3#8, lo8 nn, hi8 nn]
  | .zOutNA n => [0xD3#8, n]
  | .zInAN n => [0xDB#8, n]
  | .zExMemSpHl => [0xE3#8]
  | .zExDeHl => [0xEB#8]
  | .zDi => [0xF3#8]
  | .zEi => [0xFB#8]
  | .zCallCcNn cc nn => [0b11#2 ++ cc.code ++ 0b100#3, lo8 nn, hi8 nn]
  | .zPushQq qq => [0b11#2 ++ qq.code ++ 0b0101#4]
  | .zCallNn nn => [0xCD#8, lo8 nn, hi8 nn]
  | .zRst t => [0b11#2 ++ t ++ 0b111#3]
  | .zRlcR r => [0xCB#8, 0b00000#5 ++ r.code]
  | .zRlcMemHl => [0xCB#8, 0x06#8]
  | .zRrcR r => [0xCB#8, 0b00001#5 ++ r.code]
  | .zRrcMemHl => [0xCB#8, 0x0E#8]
  | .zRlR r => [0xCB#8, 0b00010#5 ++ r.code]
  | .zRlMemHl => [0xCB#8, 0x16#8]
  | .zRrR r => [0xCB#8, 0b00011#5 ++ r.code]
  | .zRrMemHl => [0xCB#8, 0x1E#8]
  | .zSlaR r => [0xCB#8, 0b00100#5 ++ r.code]
  | .zSlaMemHl => [0xCB#8, 0x26#8]
  | .zSraR r => [0xCB#8, 0b00101#5 ++ r.code]
  | .zSraMemHl => [0xCB#8, 0x2E#8]
  | .zSllR r => [0xCB#8, 0b00110#5 ++ r.code]
  | .zSllMemHl => [0xCB#8, 0x36#8]
  | .zSrlR r => [0xCB#8, 0b00111#5 ++ r.code]
  | .zSrlMemHl => [0xCB#8, 0x3E#8]
  | .zBitBR b r => [0xCB#8, 0b01#2 ++ b ++ r.code]
  | .zBitBMemHl b => [0xCB#8, 0b01#2 ++ b ++ 0b110#3]
  | .zResBR b r => [0xCB#8, 0b10#2 ++ b ++ r.code]
  | .zResBMemHl b => [0xCB#8, 0b10#2 ++ b ++ 0b110#3]
  | .zSetBR b r => [0xCB#8, 0b11#2 ++ b ++ r.code]
  | .zSetBMemHl b => [0xCB#8, 0b11#2 ++ b ++ 0b110#3]
  | .zInRC r => [0xED#8, 0b01#2 ++ r.code ++ 0b000#3]
  | .zInFC => [0xED#8, 0x70#8]
  | .zOutCR r => [0xED#8, 0b01#2 ++ r.code ++ 0b001#3]
  | .zOutC0 => [0xED#8, 0x71#8]
  | .zSbcHlSs ss => [0xED#8, 0b01#2 ++ ss.code ++ 0b0010#4]
  | .zAdcHlSs ss => [0xED#8, 0b01#2 ++ ss.code ++ 0b1010#4]
  | .zLdMemNnDd dd nn => [0xED#8, 0b01#2 ++ dd.code ++ 0b0011#4, lo8 nn, hi8 nn]
  | .zLdDdMemNn dd nn => [0xED#8, 0b01#2 ++ dd.code ++ 0b1011#4, lo8 nn, hi8 nn]
  | .zNeg => [0xED#8, 0x44#8]
  | .zNegCopy y => [0xED#8, 0b01#2 ++ y ++ 0b100#3]
  | .zRetn => [0xED#8, 0x45#8]
  | .zReti => [0xED#8, 0x4D#8]
  | .zRetnCopy y => [0xED#8, 0b01#2 ++ y ++ 0b101#3]
  | .zIm0 => [0xED#8, 0x46#8]
  | .zIm1 => [0xED#8, 0x56#8]
  | .zIm2 => [0xED#8, 0x5E#8]
  | .zIm0Copy4E => [0xED#8, 0x4E#8]
  | .zIm0Copy66 => [0xED#8, 0x66#8]
  | .zIm0Copy6E => [0xED#8, 0x6E#8]
  | .zIm1Copy => [0xED#8, 0x76#8]
  | .zIm2Copy => [0xED#8, 0x7E#8]
  | .zLdIA => [0xED#8, 0x47#8]
  | .zLdRA => [0xED#8, 0x4F#8]
  | .zLdAI => [0xED#8, 0x57#8]
  | .zLdAR => [0xED#8, 0x5F#8]
  | .zRrd => [0xED#8, 0x67#8]
  | .zRld => [0xED#8, 0x6F#8]
  | .zLdi => [0xED#8, 0xA0#8]
  | .zCpi => [0xED#8, 0xA1#8]
  | .zIni => [0xED#8, 0xA2#8]
  | .zOuti => [0xED#8, 0xA3#8]
  | .zLdd => [0xED#8, 0xA8#8]
  | .zCpd => [0xED#8, 0xA9#8]
  | .zInd => [0xED#8, 0xAA#8]
  | .zOutd => [0xED#8, 0xAB#8]
  | .zLdir => [0xED#8, 0xB0#8]
  | .zCpir => [0xED#8, 0xB1#8]
  | .zInir => [0xED#8, 0xB2#8]
  | .zOtir => [0xED#8, 0xB3#8]
  | .zLddr => [0xED#8, 0xB8#8]
  | .zCpdr => [0xED#8, 0xB9#8]
  | .zIndr => [0xED#8, 0xBA#8]
  | .zOtdr => [0xED#8, 0xBB#8]
  | .zIllegalEd op => [0xED#8, op]
  | .zAddXyPp xy pp => [xy.px, 0b00#2 ++ pp.code ++ 0b1001#4]
  | .zLdXyNn xy nn => [xy.px, 0x21#8, lo8 nn, hi8 nn]
  | .zLdMemNnXy xy nn => [xy.px, 0x22#8, lo8 nn, hi8 nn]
  | .zIncXy xy => [xy.px, 0x23#8]
  | .zIncXyHalf xy l => [xy.px, 0b0010#4 ++ l.code ++ 0b100#3]
  | .zDecXyHalf xy l => [xy.px, 0b0010#4 ++ l.code ++ 0b101#3]
  | .zLdXyHalfN xy l n => [xy.px, 0b0010#4 ++ l.code ++ 0b110#3, n]
  | .zLdXyMemNn xy nn => [xy.px, 0x2A#8, lo8 nn, hi8 nn]
  | .zDecXy xy => [xy.px, 0x2B#8]
  | .zIncMemXy xy d => [xy.px, 0x34#8, d]
  | .zDecMemXy xy d => [xy.px, 0x35#8, d]
  | .zLdMemXyN xy d n => [xy.px, 0x36#8, d, n]
  | .zLdRMemXy xy r d => [xy.px, 0b01#2 ++ r.code ++ 0b110#3, d]
  | .zLdMemXyR xy r d => [xy.px, 0b01110#5 ++ r.code, d]
  | .zLdXyHalfR xy l r' => [xy.px, 0b0110#4 ++ l.code ++ r'.code]
  | .zLdRXyHalf xy r l => [xy.px, 0b01#2 ++ r.code ++ 0b10#2 ++ l.code]
  | .zAddAMemXy xy d => [xy.px, 0x86#8, d]
  | .zAddAXyHalf xy l => [xy.px, 0b1000010#7 ++ l.code]
  | .zAdcAMemXy xy d => [xy.px, 0x8E#8, d]
  | .zAdcAXyHalf xy l => [xy.px, 0b1000110#7 ++ l.code]
  | .zSubMemXy xy d => [xy.px, 0x96#8, d]
  | .zSubXyHalf xy l => [xy.px, 0b1001010#7 ++ l.code]
  | .zSbcAMemXy xy d => [xy.px, 0x9E#8, d]
  | .zSbcAXyHalf xy l => [xy.px, 0b1001110#7 ++ l.code]
  | .zAndMemXy xy d => [xy.px, 0xA6#8, d]
  | .zAndXyHalf xy l => [xy.px, 0b1010010#7 ++ l.code]
  | .zXorMemXy xy d => [xy.px, 0xAE#8, d]
  | .zXorXyHalf xy l => [xy.px, 0b1010110#7 ++ l.code]
  | .zOrMemXy xy d => [xy.px, 0xB6#8, d]
  | .zOrXyHalf xy l => [xy.px, 0b1011010#7 ++ l.code]
  | .zCpMemXy xy d => [xy.px, 0xBE#8, d]
  | .zCpXyHalf xy l => [xy.px, 0b1011110#7 ++ l.code]
  | .zPopXy xy => [xy.px, 0xE1#8]
  | .zExMemSpXy xy => [xy.px, 0xE3#8]
  | .zPushXy xy => [xy.px, 0xE5#8]
  | .zJpXy xy => [xy.px, 0xE9#8]
  | .zLdSpXy xy => [xy.px, 0xF9#8]
  | .zRlcMemXy xy d => [xy.px, 0xCB#8, d, 0x06#8]
  | .zRrcMemXy xy d => [xy.px, 0xCB#8, d, 0x0E#8]
  | .zRlMemXy xy d => [xy.px, 0xCB#8, d, 0x16#8]
  | .zRrMemXy xy d => [xy.px, 0xCB#8, d, 0x1E#8]
  | .zSlaMemXy xy d => [xy.px, 0xCB#8, d, 0x26#8]
  | .zSraMemXy xy d => [xy.px, 0xCB#8, d, 0x2E#8]
  | .zSllMemXy xy d => [xy.px, 0xCB#8, d, 0x36#8]
  | .zSrlMemXy xy d => [xy.px, 0xCB#8, d, 0x3E#8]
  | .zRotMemXyR xy d rot r => [xy.px, 0xCB#8, d, 0b00#2 ++ rot.code ++ r.code]
  | .zBitBMemXy xy d b => [xy.px, 0xCB#8, d, 0b01#2 ++ b ++ 0b110#3]
  | .zBitBMemXyZ xy d b z => [xy.px, 0xCB#8, d, 0b01#2 ++ b ++ z]
  | .zResBMemXy xy d b => [xy.px, 0xCB#8, d, 0b10#2 ++ b ++ 0b110#3]
  | .zResBMemXyR xy d b r => [xy.px, 0xCB#8, d, 0b10#2 ++ b ++ r.code]
  | .zSetBMemXy xy d b => [xy.px, 0xCB#8, d, 0b11#2 ++ b ++ 0b110#3]
  | .zSetBMemXyR xy d b r => [xy.px, 0xCB#8, d, 0b11#2 ++ b ++ r.code]
  | .zPrefix xy next => [xy.px, next]
  | .zPrefixPrefix xy nextXy => [xy.px, nextXy.px]
  | .mBrk => [0x00#8]
  | .mOraIzx b => [0x01#8, b]
  | .mOraZp b => [0x05#8, b]
  | .mAslZp b => [0x06#8, b]
  | .mPhp => [0x08#8]
  | .mOraImm b => [0x09#8, b]
  | .mAslA => [0x0A#8]
  | .mOraAbs addr => [0x0D#8, lo8 addr, hi8 addr]
  | .mAslAbs addr => [0x0E#8, lo8 addr, hi8 addr]
  | .mBpl b => [0x10#8, b]
  | .mOraIzy b => [0x11#8, b]
  | .mOraZpX b => [0x15#8, b]
  | .mAslZpX b => [0x16#8, b]
  | .mClc => [0x18#8]
  | .mOraAbsY addr => [0x19#8, lo8 addr, hi8 addr]
  | .mOraAbsX addr => [0x1D#8, lo8 addr, hi8 addr]
  | .mAslAbsX addr => [0x1E#8, lo8 addr, hi8 addr]
  | .mJsr addr => [0x20#8, lo8 addr, hi8 addr]
  | .mAndIzx b => [0x21#8, b]
  | .mBitZp b => [0x24#8, b]
  | .mAndZp b => [0x25#8, b]
  | .mRolZp b => [0x26#8, b]
  | .mPlp => [0x28#8]
  | .mAndImm b => [0x29#8, b]
  | .mRolA => [0x2A#8]
  | .mBitAbs addr => [0x2C#8, lo8 addr, hi8 addr]
  | .mAndAbs addr => [0x2D#8, lo8 addr, hi8 addr]
  | .mRolAbs addr => [0x2E#8, lo8 addr, hi8 addr]
  | .mBmi b => [0x30#8, b]
  | .mAndIzy b => [0x31#8, b]
  | .mAndZpX b => [0x35#8, b]
  | .mRolZpX b => [0x36#8, b]
  | .mSec => [0x38#8]
  | .mAndAbsY addr => [0x39#8, lo8 addr, hi8 addr]
  | .mAndAbsX addr => [0x3D#8, lo8 addr, hi8 addr]
  | .mRolAbsX addr => [0x3E#8, lo8 addr, hi8 addr]
  | .mRti => [0x40#8]
  | .mEorIzx b => [0x41#8, b]
  | .mEorZp b => [0x45#8, b]
  | .mLsrZp b => [0x46#8, b]
  | .mPha => [0x48#8]
  | .mEorImm b => [0x49#8, b]
  | .mLsrA => [0x4A#8]
  | .mJmpAbs addr => [0x4C#8, lo8 addr, hi8 addr]
  | .mEorAbs addr => [0x4D#8, lo8 addr, hi8 addr]
  | .mLsrAbs addr => [0x4E#8, lo8 addr, hi8 addr]
  | .mBvc b => [0x50#8, b]
  | .mEorIzy b => [0x51#8, b]
  | .mEorZpX b => [0x55#8, b]
  | .mLsrZpX b => [0x56#8, b]
  | .mCli => [0x58#8]
  | .mEorAbsY addr => [0x59#8, lo8 addr, hi8 addr]
  | .mEorAbsX addr => [0x5D#8, lo8 addr, hi8 addr]
  | .mLsrAbsX addr => [0x5E#8, lo8 addr, hi8 addr]
  | .mRts => [0x60#8]
  | .mAdcIzx b => [0x61#8, b]
  | .mAdcZp b => [0x65#8, b]
  | .mRorZp b => [0x66#8, b]
  | .mPla => [0x68#8]
  | .mAdcImm b => [0x69#8, b]
  | .mRorA => [0x6A#8]
  | .mJmpInd addr => [0x6C#8, lo8 addr, hi8 addr]
  | .mAdcAbs addr => [0x6D#8, lo8 addr, hi8 addr]
  | .mRorAbs addr => [0x6E#8, lo8 addr, hi8 addr]
  | .mBvs b => [0x70#8, b]
  | .mAdcIzy b => [0x71#8, b]
  | .mAdcZpX b => [0x75#8, b]
  | .mRorZpX b => [0x76#8, b]
  | .mSei => [0x78#8]
  | .mAdcAbsY addr => [0x79#8, lo8 addr, hi8 addr]
  | .mAdcAbsX addr => [0x7D#8, lo8 addr, hi8 addr]
  | .mRorAbsX addr => [0x7E#8, lo8 addr, hi8 addr]
  | .mStaIzx b => [0x81#8, b]
  | .mStyZp b => [0x84#8, b]
  | .mStaZp b => [0x85#8, b]
  | .mStxZp b => [0x86#8, b]
  | .mDey => [0x88#8]
  | .mTxa => [0x8A#8]
  | .mStyAbs addr => [0x8C#8, lo8 addr, hi8 addr]
  | .mStaAbs addr => [0x8D#8, lo8 addr, hi8 addr]
  | .mStxAbs addr => [0x8E#8, lo8 addr, hi8 addr]
  | .mBcc b => [0x90#8, b]
  | .mStaIzy b => [0x91#8, b]
  | .mStyZpX b => [0x94#8, b]
  | .mStaZpX b => [0x95#8, b]
  | .mStxZpY b => [0x96#8, b]
  | .mTya => [0x98#8]
  | .mStaAbsY addr => [0x99#8, lo8 addr, hi8 addr]
  | .mTxs => [0x9A#8]
  | .mStaAbsX addr => [0x9D#8, lo8 addr, hi8 addr]
  | .mLdyImm b => [0xA0#8, b]
  | .mLdaIzx b => [0xA1#8, b]
  | .mLdxImm b => [0xA2#8, b]
  | .mLdyZp b => [0xA4#8, b]
  | .mLdaZp b => [0xA5#8, b]
  | .mLdxZp b => [0xA6#8, b]
  | .mTay => [0xA8#8]
  | .mLdaImm b => [0xA9#8, b]
  | .mTax => [0xAA#8]
  | .mLdyAbs addr => [0xAC#8, lo8 addr, hi8 addr]
  | .mLdaAbs addr => [0xAD#8, lo8 addr, hi8 addr]
  | .mLdxAbs addr => [0xAE#8, lo8 addr, hi8 addr]
  | .mBcs b => [0xB0#8, b]
  | .mLdaIzy b => [0xB1#8, b]
  | .mLdyZpX b => [0xB4#8, b]
  | .mLdaZpX b => [0xB5#8, b]
  | .mLdxZpY b => [0xB6#8, b]
  | .mClv => [0xB8#8]
  | .mLdaAbsY addr => [0xB9#8, lo8 addr, hi8 addr]
  | .mTsx => [0xBA#8]
  | .mLdyAbsX addr => [0xBC#8, lo8 addr, hi8 addr]
  | .mLdaAbsX addr => [0xBD#8, lo8 addr, hi8 addr]
  | .mLdxAbsY addr => [0xBE#8, lo8 addr, hi8 addr]
  | .mCpyImm b => [0xC0#8, b]
  | .mCmpIzx b => [0xC1#8, b]
  | .mCpyZp b => [0xC4#8, b]
  | .mCmpZp b => [0xC5#8, b]
  | .mDecZp b => [0xC6#8, b]
  | .mIny => [0xC8#8]
  | .mCmpImm b => [0xC9#8, b]
  | .mDex => [0xCA#8]
  | .mCpyAbs addr => [0xCC#8, lo8 addr, hi8 addr]
  | .mCmpAbs addr => [0xCD#8, lo8 addr, hi8 addr]
  | .mDecAbs addr => [0xCE#8, lo8 addr, hi8 addr]
  | .mBne b => [0xD0#8, b]
  | .mCmpIzy b => [0xD1#8, b]
  | .mCmpZpX b => [0xD5#8, b]
  | .mDecZpX b => [0xD6#8, b]
  | .mCld => [0xD8#8]
  | .mCmpAbsY addr => [0xD9#8, lo8 addr, hi8 addr]
  | .mCmpAbsX addr => [0xDD#8, lo8 addr, hi8 addr]
  | .mDecAbsX addr => [0xDE#8, lo8 addr, hi8 addr]
  | .mCpxImm b => [0xE0#8, b]
  | .mSbcIzx b => [0xE1#8, b]
  | .mCpxZp b => [0xE4#8, b]
  | .mSbcZp b => [0xE5#8, b]
  | .mIncZp b => [0xE6#8, b]
  | .mInx => [0xE8#8]
  | .mSbcImm b => [0xE9#8, b]
  | .mNop => [0xEA#8]
  | .mCpxAbs addr => [0xEC#8, lo8 addr, hi8 addr]
  | .mSbcAbs addr => [0xED#8, lo8 addr, hi8 addr]
  | .mIncAbs addr => [0xEE#8, lo8 addr, hi8 addr]
  | .mBeq b => [0xF0#8, b]
  | .mSbcIzy b => [0xF1#8, b]
  | .mSbcZpX b => [0xF5#8, b]
  | .mIncZpX b => [0xF6#8, b]
  | .mSed => [0xF8#8]
  | .mSbcAbsY addr => [0xF9#8, lo8 addr, hi8 addr]
  | .mSbcAbsX addr => [0xFD#8, lo8 addr, hi8 addr]
  | .mIncAbsX addr => [0xFE#8, lo8 addr, hi8 addr]
  | .mIllegal op => [op]

/-- The rows of format `ZPFX`: one byte long although two bytes decide them (R183). -/
def Instr.isPrefix : Instr → Bool
  | .zPrefix _ _ => true
  | .zPrefixPrefix _ _ => true
  | _ => false

/-- The length of an instruction in bytes (R171, R183, R201). -/
def Instr.size (i : Instr) : Nat := if i.isPrefix then 1 else (encode i).length

/-! ## The decoder -/

/-- Why a byte string is not decoded. No string of four bytes is refused: every encoding has a row (R220). -/
inductive DecodeError where
  /-- The bytes are the start of an instruction whose further bytes are missing. -/
  | incomplete
  deriving DecidableEq, Repr, Inhabited

/-- Takes one operand byte. -/
def need1 (rest : List Byte) (k : Byte → Instr) : Except DecodeError Instr :=
  match rest with
  | n :: _ => .ok (k n)
  | [] => .error .incomplete

/-- Takes two operand bytes. -/
def need2 (rest : List Byte) (k : Byte → Byte → Instr) : Except DecodeError Instr :=
  match rest with
  | n :: m :: _ => .ok (k n m)
  | _ => .error .incomplete

/-- Takes a 16-bit operand, low byte first (R171). -/
def need16 (rest : List Byte) (k : Word → Instr) : Except DecodeError Instr :=
  need2 rest fun lo hi => k (mk16 hi lo)

/-- Register code `r`; code 6 takes the other branch (R173). -/
def onReg {α : Type} (c : Nat) (reg : Reg8 → α) (mem : α) : α :=
  match c with
  | 0 => reg .b
  | 1 => reg .c
  | 2 => reg .d
  | 3 => reg .e
  | 4 => reg .h
  | 5 => reg .l
  | 6 => mem
  | _ => reg .a

/-- Register codes `dd` and `ss` (R174). -/
def ssOf (c : Nat) : RegSS :=
  match c with
  | 0 => .bc
  | 1 => .de
  | 2 => .hl
  | _ => .sp

/-- Register code `qq` (R174). -/
def qqOf (c : Nat) : RegQQ :=
  match c with
  | 0 => .bc
  | 1 => .de
  | 2 => .hl
  | _ => .af

/-- Register code `pp` (R174). -/
def ppOf (c : Nat) : RegPP :=
  match c with
  | 0 => .bc
  | 1 => .de
  | 2 => .xy
  | _ => .sp

/-- Code 4 is `XYH`, code 5 is `XYL` (R173). -/
def halfOf (c : Nat) : Half := if c = 4 then .hi else .lo

/-- Condition code `cc` (R175). -/
def ccOf (c : Nat) : Cond8 :=
  match c with
  | 0 => .nz
  | 1 => .z
  | 2 => .nc
  | 3 => .c
  | 4 => .po
  | 5 => .pe
  | 6 => .p
  | _ => .m

/-- The condition of `JR cc`, from `y - 4` (R175). -/
def cc4Of (c : Nat) : Cond4 :=
  match c with
  | 0 => .nz
  | 1 => .z
  | 2 => .nc
  | _ => .c

/-- Rotate code `rot` (R176). -/
def rotOf (c : Nat) : Rot :=
  match c with
  | 0 => .rlc
  | 1 => .rrc
  | 2 => .rl
  | 3 => .rr
  | 4 => .sla
  | 5 => .sra
  | 6 => .sll
  | _ => .srl

/-- Main page, `x = 0` (R178). -/
def decodeMain0 (op : Byte) (rest : List Byte) : Except DecodeError Instr :=
  match fieldZ op with
  | 0 =>
    match fieldY op with
    | 0 => .ok .zNop
    | 1 => .ok .zExAfAf
    | 2 => need1 rest .zDjnz
    | 3 => need1 rest .zJr
    | y => need1 rest (.zJrCc (cc4Of (y - 4)))
  | 1 => if fieldQ op = 0 then need16 rest (.zLdDdNn (ssOf (fieldP op))) else .ok (.zAddHlSs (ssOf (fieldP op)))
  | 2 =>
    match fieldY op with
    | 0 => .ok .zLdMemBcA
    | 1 => .ok .zLdAMemBc
    | 2 => .ok .zLdMemDeA
    | 3 => .ok .zLdAMemDe
    | 4 => need16 rest .zLdMemNnHl
    | 5 => need16 rest .zLdHlMemNn
    | 6 => need16 rest .zLdMemNnA
    | _ => need16 rest .zLdAMemNn
  | 3 => .ok (if fieldQ op = 0 then .zIncSs (ssOf (fieldP op)) else .zDecSs (ssOf (fieldP op)))
  | 4 => .ok (onReg (fieldY op) .zIncR .zIncMemHl)
  | 5 => .ok (onReg (fieldY op) .zDecR .zDecMemHl)
  | 6 => need1 rest (onReg (fieldY op) .zLdRN .zLdMemHlN)
  | _ =>
    match fieldY op with
    | 0 => .ok .zRlca
    | 1 => .ok .zRrca
    | 2 => .ok .zRla
    | 3 => .ok .zRra
    | 4 => .ok .zDaa
    | 5 => .ok .zCpl
    | 6 => .ok .zScf
    | _ => .ok .zCcf

/-- Main page, `x = 1`: `LD r,r'`, `LD r,(HL)`, `LD (HL),r`, `HALT` (R178). -/
def decodeMain1 (op : Byte) : Instr :=
  onReg (fieldY op)
    (fun r => onReg (fieldZ op) (fun r' => .zLdRR r r') (.zLdRMemHl r))
    (onReg (fieldZ op) .zLdMemHlR .zHalt)

/-- Main page, `x = 2`: `alu[y]` on a register or `(HL)` (R176, R178). -/
def decodeMain2 (op : Byte) : Instr :=
  match fieldY op with
  | 0 => onReg (fieldZ op) .zAddAR .zAddAMemHl
  | 1 => onReg (fieldZ op) .zAdcAR .zAdcAMemHl
  | 2 => onReg (fieldZ op) .zSubR .zSubMemHl
  | 3 => onReg (fieldZ op) .zSbcAR .zSbcAMemHl
  | 4 => onReg (fieldZ op) .zAndR .zAndMemHl
  | 5 => onReg (fieldZ op) .zXorR .zXorMemHl
  | 6 => onReg (fieldZ op) .zOrR .zOrMemHl
  | _ => onReg (fieldZ op) .zCpR .zCpMemHl

/-- Main page, `x = 3`, without the four bytes that open another page (R178). -/
def decodeMain3 (op : Byte) (rest : List Byte) : Except DecodeError Instr :=
  match fieldZ op with
  | 0 => .ok (.zRetCc (ccOf (fieldY op)))
  | 1 =>
    if fieldQ op = 0 then .ok (.zPopQq (qqOf (fieldP op)))
    else match fieldP op with
      | 0 => .ok .zRet
      | 1 => .ok .zExx
      | 2 => .ok .zJpHl
      | _ => .ok .zLdSpHl
  | 2 => need16 rest (.zJpCcNn (ccOf (fieldY op)))
  | 3 =>
    match fieldY op with
    | 0 => need16 rest .zJpNn
    | 2 => need1 rest .zOutNA
    | 3 => need1 rest .zInAN
    | 4 => .ok .zExMemSpHl
    | 5 => .ok .zExDeHl
    | 6 => .ok .zDi
    | _ => .ok .zEi
  | 4 => need16 rest (.zCallCcNn (ccOf (fieldY op)))
  | 5 => if fieldQ op = 0 then .ok (.zPushQq (qqOf (fieldP op))) else need16 rest .zCallNn
  | 6 =>
    match fieldY op with
    | 0 => need1 rest .zAddAN
    | 1 => need1 rest .zAdcAN
    | 2 => need1 rest .zSubN
    | 3 => need1 rest .zSbcAN
    | 4 => need1 rest .zAndN
    | 5 => need1 rest .zXorN
    | 6 => need1 rest .zOrN
    | _ => need1 rest .zCpN
  | _ => .ok (.zRst (op.extractLsb' 3 3))

/-- The `0xCB` page (R179). -/
def decodeCb (op : Byte) : Instr :=
  let b := op.extractLsb' 3 3
  match fieldX op with
  | 0 =>
    match fieldY op with
    | 0 => onReg (fieldZ op) .zRlcR .zRlcMemHl
    | 1 => onReg (fieldZ op) .zRrcR .zRrcMemHl
    | 2 => onReg (fieldZ op) .zRlR .zRlMemHl
    | 3 => onReg (fieldZ op) .zRrR .zRrMemHl
    | 4 => onReg (fieldZ op) .zSlaR .zSlaMemHl
    | 5 => onReg (fieldZ op) .zSraR .zSraMemHl
    | 6 => onReg (fieldZ op) .zSllR .zSllMemHl
    | _ => onReg (fieldZ op) .zSrlR .zSrlMemHl
  | 1 => onReg (fieldZ op) (.zBitBR b) (.zBitBMemHl b)
  | 2 => onReg (fieldZ op) (.zResBR b) (.zResBMemHl b)
  | _ => onReg (fieldZ op) (.zSetBR b) (.zSetBMemHl b)

/-- The `0xED` page, `x = 1` (R181). -/
def decodeEd1 (op : Byte) (rest : List Byte) : Except DecodeError Instr :=
  match fieldZ op with
  | 0 => .ok (onReg (fieldY op) .zInRC .zInFC)
  | 1 => .ok (onReg (fieldY op) .zOutCR .zOutC0)
  | 2 => .ok (if fieldQ op = 0 then .zSbcHlSs (ssOf (fieldP op)) else .zAdcHlSs (ssOf (fieldP op)))
  | 3 => need16 rest (if fieldQ op = 0 then .zLdMemNnDd (ssOf (fieldP op)) else .zLdDdMemNn (ssOf (fieldP op)))
  | 4 => .ok (if fieldY op = 0 then .zNeg else .zNegCopy (op.extractLsb' 3 3))
  | 5 =>
    match fieldY op with
    | 0 => .ok .zRetn
    | 1 => .ok .zReti
    | _ => .ok (.zRetnCopy (op.extractLsb' 3 3))
  | 6 =>
    match fieldY op with
    | 0 => .ok .zIm0
    | 1 => .ok .zIm0Copy4E
    | 2 => .ok .zIm1
    | 3 => .ok .zIm2
    | 4 => .ok .zIm0Copy66
    | 5 => .ok .zIm0Copy6E
    | 6 => .ok .zIm1Copy
    | _ => .ok .zIm2Copy
  | _ =>
    match fieldY op with
    | 0 => .ok .zLdIA
    | 1 => .ok .zLdRA
    | 2 => .ok .zLdAI
    | 3 => .ok .zLdAR
    | 4 => .ok .zRrd
    | 5 => .ok .zRld
    | _ => .ok (.zIllegalEd op)

/-- The `0xED` page, `x = 2`: the block instructions (R181). -/
def decodeEd2 (op : Byte) : Instr :=
  match op.toNat with
  | 0xA0 => .zLdi
  | 0xA1 => .zCpi
  | 0xA2 => .zIni
  | 0xA3 => .zOuti
  | 0xA8 => .zLdd
  | 0xA9 => .zCpd
  | 0xAA => .zInd
  | 0xAB => .zOutd
  | 0xB0 => .zLdir
  | 0xB1 => .zCpir
  | 0xB2 => .zInir
  | 0xB3 => .zOtir
  | 0xB8 => .zLddr
  | 0xB9 => .zCpdr
  | 0xBA => .zIndr
  | 0xBB => .zOtdr
  | _ => .zIllegalEd op

/-- The `0xED` page (R181). -/
def decodeEd (op : Byte) (rest : List Byte) : Except DecodeError Instr :=
  match fieldX op with
  | 1 => decodeEd1 op rest
  | 2 => .ok (decodeEd2 op)
  | _ => .ok (.zIllegalEd op)

/-- The `0xDD 0xCB` and `0xFD 0xCB` pages (R182). -/
def decodeXyCb (xy : XYReg) (d op : Byte) : Instr :=
  let b := op.extractLsb' 3 3
  match fieldX op with
  | 0 =>
    onReg (fieldZ op) (fun r => .zRotMemXyR xy d (rotOf (fieldY op)) r)
      (match fieldY op with
      | 0 => .zRlcMemXy xy d
      | 1 => .zRrcMemXy xy d
      | 2 => .zRlMemXy xy d
      | 3 => .zRrMemXy xy d
      | 4 => .zSlaMemXy xy d
      | 5 => .zSraMemXy xy d
      | 6 => .zSllMemXy xy d
      | _ => .zSrlMemXy xy d)
  | 1 => if fieldZ op = 6 then .zBitBMemXy xy d b else .zBitBMemXyZ xy d b (op.extractLsb' 0 3)
  | 2 => onReg (fieldZ op) (fun r => .zResBMemXyR xy d b r) (.zResBMemXy xy d b)
  | _ => onReg (fieldZ op) (fun r => .zSetBMemXyR xy d b r) (.zSetBMemXy xy d b)

/-- The `0xDD` and `0xFD` pages, `x = 0` (R180). -/
def decodeXy0 (xy : XYReg) (op : Byte) (rest : List Byte) : Except DecodeError Instr :=
  match op.toNat with
  | 0x09 => .ok (.zAddXyPp xy .bc)
  | 0x19 => .ok (.zAddXyPp xy .de)
  | 0x29 => .ok (.zAddXyPp xy .xy)
  | 0x39 => .ok (.zAddXyPp xy .sp)
  | 0x21 => need16 rest (.zLdXyNn xy)
  | 0x22 => need16 rest (.zLdMemNnXy xy)
  | 0x23 => .ok (.zIncXy xy)
  | 0x24 => .ok (.zIncXyHalf xy .hi)
  | 0x2C => .ok (.zIncXyHalf xy .lo)
  | 0x25 => .ok (.zDecXyHalf xy .hi)
  | 0x2D => .ok (.zDecXyHalf xy .lo)
  | 0x26 => need1 rest (.zLdXyHalfN xy .hi)
  | 0x2E => need1 rest (.zLdXyHalfN xy .lo)
  | 0x2A => need16 rest (.zLdXyMemNn xy)
  | 0x2B => .ok (.zDecXy xy)
  | 0x34 => need1 rest (.zIncMemXy xy)
  | 0x35 => need1 rest (.zDecMemXy xy)
  | 0x36 => need2 rest (.zLdMemXyN xy)
  | _ => .ok (.zPrefix xy op)

/-- The source of `LD XYH,r'`: codes 4 and 5 are the halves (R503). -/
def xyOpOf (r : Reg8) : XYOp :=
  match r with
  | .b => .b
  | .c => .c
  | .d => .d
  | .e => .e
  | .h => .xyh
  | .l => .xyl
  | .a => .a

/-- `LD` on the `0xDD` and `0xFD` pages, `x = 1`, with codes `y` and `z` neither of them 6 (R180, R503). -/
def decodeXyLd (xy : XYReg) (op : Byte) (r r' : Reg8) : Instr :=
  match r with
  | .h => .zLdXyHalfR xy .hi (xyOpOf r')
  | .l => .zLdXyHalfR xy .lo (xyOpOf r')
  | _ =>
    match r' with
    | .h => .zLdRXyHalf xy r .hi
    | .l => .zLdRXyHalf xy r .lo
    | _ => .zPrefix xy op

/-- The `0xDD` and `0xFD` pages, `x = 1` (R180). -/
def decodeXy1 (xy : XYReg) (op : Byte) (rest : List Byte) : Except DecodeError Instr :=
  onReg (fieldY op)
    (fun r => onReg (fieldZ op) (fun r' => .ok (decodeXyLd xy op r r')) (need1 rest (.zLdRMemXy xy r)))
    (onReg (fieldZ op) (fun r => need1 rest (.zLdMemXyR xy r)) (.ok (.zPrefix xy op)))

/-- The `0xDD` and `0xFD` pages, `x = 2`: `alu[y]` on `(XY+d)`, `XYH`, `XYL` (R180). -/
def decodeXy2 (xy : XYReg) (op : Byte) (rest : List Byte) : Except DecodeError Instr :=
  match fieldZ op with
  | 6 =>
    match fieldY op with
    | 0 => need1 rest (.zAddAMemXy xy)
    | 1 => need1 rest (.zAdcAMemXy xy)
    | 2 => need1 rest (.zSubMemXy xy)
    | 3 => need1 rest (.zSbcAMemXy xy)
    | 4 => need1 rest (.zAndMemXy xy)
    | 5 => need1 rest (.zXorMemXy xy)
    | 6 => need1 rest (.zOrMemXy xy)
    | _ => need1 rest (.zCpMemXy xy)
  | 4 => .ok (decodeXyAlu .hi)
  | 5 => .ok (decodeXyAlu .lo)
  | _ => .ok (.zPrefix xy op)
where
  /-- `alu[y]` on an index half (R503). -/
  decodeXyAlu (l : Half) : Instr :=
    match fieldY op with
    | 0 => .zAddAXyHalf xy l
    | 1 => .zAdcAXyHalf xy l
    | 2 => .zSubXyHalf xy l
    | 3 => .zSbcAXyHalf xy l
    | 4 => .zAndXyHalf xy l
    | 5 => .zXorXyHalf xy l
    | 6 => .zOrXyHalf xy l
    | _ => .zCpXyHalf xy l

/-- The `0xDD` and `0xFD` pages (R180, R182, R502, R511): after the prefix byte, the byte `op` and what follows it. -/
def decodeXy (xy : XYReg) (op : Byte) (rest : List Byte) : Except DecodeError Instr :=
  match fieldX op with
  | 0 => decodeXy0 xy op rest
  | 1 => decodeXy1 xy op rest
  | 2 => decodeXy2 xy op rest
  | _ =>
    match op.toNat with
    | 0xCB => need2 rest (decodeXyCb xy)
    | 0xDD => .ok (.zPrefixPrefix xy .ix)
    | 0xFD => .ok (.zPrefixPrefix xy .iy)
    | 0xE1 => .ok (.zPopXy xy)
    | 0xE3 => .ok (.zExMemSpXy xy)
    | 0xE5 => .ok (.zPushXy xy)
    | 0xE9 => .ok (.zJpXy xy)
    | 0xF9 => .ok (.zLdSpXy xy)
    | _ => .ok (.zPrefix xy op)

/-- The main page, without the four bytes that open another page (R178). -/
def decodeMain (op : Byte) (rest : List Byte) : Except DecodeError Instr :=
  match fieldX op with
  | 0 => decodeMain0 op rest
  | 1 => .ok (decodeMain1 op)
  | 2 => .ok (decodeMain2 op)
  | _ => decodeMain3 op rest

/-- The Z80 decoder (R170, R183): the instruction at the start of the bytes. Bytes after it are not looked at. -/
def decodeZ80 (bytes : List Byte) : Except DecodeError Instr :=
  match bytes with
  | [] => .error .incomplete
  | op :: rest =>
    match op.toNat with
    | 0xCB =>
      match rest with
      | [] => .error .incomplete
      | op2 :: _ => .ok (decodeCb op2)
    | 0xED =>
      match rest with
      | [] => .error .incomplete
      | op2 :: rest2 => decodeEd op2 rest2
    | 0xDD =>
      match rest with
      | [] => .error .incomplete
      | op2 :: rest2 => decodeXy .ix op2 rest2
    | 0xFD =>
      match rest with
      | [] => .error .incomplete
      | op2 :: rest2 => decodeXy .iy op2 rest2
    | _ => decodeMain op rest

/-! The 6502 decoder follows the matrix of R203, two rows of it to a definition. A byte that is not in the matrix is illegal (R204). -/

/-- Rows 0x and 1x of the 6502 matrix (R203). -/
def decodeM0 (op : Byte) (rest : List Byte) : Except DecodeError Instr :=
  match op.toNat with
  | 0x00 => .ok .mBrk
  | 0x01 => need1 rest .mOraIzx
  | 0x05 => need1 rest .mOraZp
  | 0x06 => need1 rest .mAslZp
  | 0x08 => .ok .mPhp
  | 0x09 => need1 rest .mOraImm
  | 0x0A => .ok .mAslA
  | 0x0D => need16 rest .mOraAbs
  | 0x0E => need16 rest .mAslAbs
  | 0x10 => need1 rest .mBpl
  | 0x11 => need1 rest .mOraIzy
  | 0x15 => need1 rest .mOraZpX
  | 0x16 => need1 rest .mAslZpX
  | 0x18 => .ok .mClc
  | 0x19 => need16 rest .mOraAbsY
  | 0x1D => need16 rest .mOraAbsX
  | 0x1E => need16 rest .mAslAbsX
  | _ => .ok (.mIllegal op)

/-- Rows 2x and 3x of the 6502 matrix (R203). -/
def decodeM2 (op : Byte) (rest : List Byte) : Except DecodeError Instr :=
  match op.toNat with
  | 0x20 => need16 rest .mJsr
  | 0x21 => need1 rest .mAndIzx
  | 0x24 => need1 rest .mBitZp
  | 0x25 => need1 rest .mAndZp
  | 0x26 => need1 rest .mRolZp
  | 0x28 => .ok .mPlp
  | 0x29 => need1 rest .mAndImm
  | 0x2A => .ok .mRolA
  | 0x2C => need16 rest .mBitAbs
  | 0x2D => need16 rest .mAndAbs
  | 0x2E => need16 rest .mRolAbs
  | 0x30 => need1 rest .mBmi
  | 0x31 => need1 rest .mAndIzy
  | 0x35 => need1 rest .mAndZpX
  | 0x36 => need1 rest .mRolZpX
  | 0x38 => .ok .mSec
  | 0x39 => need16 rest .mAndAbsY
  | 0x3D => need16 rest .mAndAbsX
  | 0x3E => need16 rest .mRolAbsX
  | _ => .ok (.mIllegal op)

/-- Rows 4x and 5x of the 6502 matrix (R203). -/
def decodeM4 (op : Byte) (rest : List Byte) : Except DecodeError Instr :=
  match op.toNat with
  | 0x40 => .ok .mRti
  | 0x41 => need1 rest .mEorIzx
  | 0x45 => need1 rest .mEorZp
  | 0x46 => need1 rest .mLsrZp
  | 0x48 => .ok .mPha
  | 0x49 => need1 rest .mEorImm
  | 0x4A => .ok .mLsrA
  | 0x4C => need16 rest .mJmpAbs
  | 0x4D => need16 rest .mEorAbs
  | 0x4E => need16 rest .mLsrAbs
  | 0x50 => need1 rest .mBvc
  | 0x51 => need1 rest .mEorIzy
  | 0x55 => need1 rest .mEorZpX
  | 0x56 => need1 rest .mLsrZpX
  | 0x58 => .ok .mCli
  | 0x59 => need16 rest .mEorAbsY
  | 0x5D => need16 rest .mEorAbsX
  | 0x5E => need16 rest .mLsrAbsX
  | _ => .ok (.mIllegal op)

/-- Rows 6x and 7x of the 6502 matrix (R203). -/
def decodeM6 (op : Byte) (rest : List Byte) : Except DecodeError Instr :=
  match op.toNat with
  | 0x60 => .ok .mRts
  | 0x61 => need1 rest .mAdcIzx
  | 0x65 => need1 rest .mAdcZp
  | 0x66 => need1 rest .mRorZp
  | 0x68 => .ok .mPla
  | 0x69 => need1 rest .mAdcImm
  | 0x6A => .ok .mRorA
  | 0x6C => need16 rest .mJmpInd
  | 0x6D => need16 rest .mAdcAbs
  | 0x6E => need16 rest .mRorAbs
  | 0x70 => need1 rest .mBvs
  | 0x71 => need1 rest .mAdcIzy
  | 0x75 => need1 rest .mAdcZpX
  | 0x76 => need1 rest .mRorZpX
  | 0x78 => .ok .mSei
  | 0x79 => need16 rest .mAdcAbsY
  | 0x7D => need16 rest .mAdcAbsX
  | 0x7E => need16 rest .mRorAbsX
  | _ => .ok (.mIllegal op)

/-- Rows 8x and 9x of the 6502 matrix (R203). -/
def decodeM8 (op : Byte) (rest : List Byte) : Except DecodeError Instr :=
  match op.toNat with
  | 0x81 => need1 rest .mStaIzx
  | 0x84 => need1 rest .mStyZp
  | 0x85 => need1 rest .mStaZp
  | 0x86 => need1 rest .mStxZp
  | 0x88 => .ok .mDey
  | 0x8A => .ok .mTxa
  | 0x8C => need16 rest .mStyAbs
  | 0x8D => need16 rest .mStaAbs
  | 0x8E => need16 rest .mStxAbs
  | 0x90 => need1 rest .mBcc
  | 0x91 => need1 rest .mStaIzy
  | 0x94 => need1 rest .mStyZpX
  | 0x95 => need1 rest .mStaZpX
  | 0x96 => need1 rest .mStxZpY
  | 0x98 => .ok .mTya
  | 0x99 => need16 rest .mStaAbsY
  | 0x9A => .ok .mTxs
  | 0x9D => need16 rest .mStaAbsX
  | _ => .ok (.mIllegal op)

/-- Rows Ax and Bx of the 6502 matrix (R203). -/
def decodeMA (op : Byte) (rest : List Byte) : Except DecodeError Instr :=
  match op.toNat with
  | 0xA0 => need1 rest .mLdyImm
  | 0xA1 => need1 rest .mLdaIzx
  | 0xA2 => need1 rest .mLdxImm
  | 0xA4 => need1 rest .mLdyZp
  | 0xA5 => need1 rest .mLdaZp
  | 0xA6 => need1 rest .mLdxZp
  | 0xA8 => .ok .mTay
  | 0xA9 => need1 rest .mLdaImm
  | 0xAA => .ok .mTax
  | 0xAC => need16 rest .mLdyAbs
  | 0xAD => need16 rest .mLdaAbs
  | 0xAE => need16 rest .mLdxAbs
  | 0xB0 => need1 rest .mBcs
  | 0xB1 => need1 rest .mLdaIzy
  | 0xB4 => need1 rest .mLdyZpX
  | 0xB5 => need1 rest .mLdaZpX
  | 0xB6 => need1 rest .mLdxZpY
  | 0xB8 => .ok .mClv
  | 0xB9 => need16 rest .mLdaAbsY
  | 0xBA => .ok .mTsx
  | 0xBC => need16 rest .mLdyAbsX
  | 0xBD => need16 rest .mLdaAbsX
  | 0xBE => need16 rest .mLdxAbsY
  | _ => .ok (.mIllegal op)

/-- Rows Cx and Dx of the 6502 matrix (R203). -/
def decodeMC (op : Byte) (rest : List Byte) : Except DecodeError Instr :=
  match op.toNat with
  | 0xC0 => need1 rest .mCpyImm
  | 0xC1 => need1 rest .mCmpIzx
  | 0xC4 => need1 rest .mCpyZp
  | 0xC5 => need1 rest .mCmpZp
  | 0xC6 => need1 rest .mDecZp
  | 0xC8 => .ok .mIny
  | 0xC9 => need1 rest .mCmpImm
  | 0xCA => .ok .mDex
  | 0xCC => need16 rest .mCpyAbs
  | 0xCD => need16 rest .mCmpAbs
  | 0xCE => need16 rest .mDecAbs
  | 0xD0 => need1 rest .mBne
  | 0xD1 => need1 rest .mCmpIzy
  | 0xD5 => need1 rest .mCmpZpX
  | 0xD6 => need1 rest .mDecZpX
  | 0xD8 => .ok .mCld
  | 0xD9 => need16 rest .mCmpAbsY
  | 0xDD => need16 rest .mCmpAbsX
  | 0xDE => need16 rest .mDecAbsX
  | _ => .ok (.mIllegal op)

/-- Rows Ex and Fx of the 6502 matrix (R203). -/
def decodeME (op : Byte) (rest : List Byte) : Except DecodeError Instr :=
  match op.toNat with
  | 0xE0 => need1 rest .mCpxImm
  | 0xE1 => need1 rest .mSbcIzx
  | 0xE4 => need1 rest .mCpxZp
  | 0xE5 => need1 rest .mSbcZp
  | 0xE6 => need1 rest .mIncZp
  | 0xE8 => .ok .mInx
  | 0xE9 => need1 rest .mSbcImm
  | 0xEA => .ok .mNop
  | 0xEC => need16 rest .mCpxAbs
  | 0xED => need16 rest .mSbcAbs
  | 0xEE => need16 rest .mIncAbs
  | 0xF0 => need1 rest .mBeq
  | 0xF1 => need1 rest .mSbcIzy
  | 0xF5 => need1 rest .mSbcZpX
  | 0xF6 => need1 rest .mIncZpX
  | 0xF8 => .ok .mSed
  | 0xF9 => need16 rest .mSbcAbsY
  | 0xFD => need16 rest .mSbcAbsX
  | 0xFE => need16 rest .mIncAbsX
  | _ => .ok (.mIllegal op)

/-- The 6502 decoder (R200). Bytes after the instruction are not looked at. -/
def decodeM6502 (bytes : List Byte) : Except DecodeError Instr :=
  match bytes with
  | [] => .error .incomplete
  | op :: rest =>
    match (op.extractLsb' 5 3).toNat with
    | 0 => decodeM0 op rest
    | 1 => decodeM2 op rest
    | 2 => decodeM4 op rest
    | 3 => decodeM6 op rest
    | 4 => decodeM8 op rest
    | 5 => decodeMA op rest
    | 6 => decodeMC op rest
    | _ => decodeME op rest

/-- The decoder of the variant `cpu`: total on any bytes, refusing by name those that are only the start of an instruction. -/
def decode (cpu : Cpu) (bytes : List Byte) : Except DecodeError Instr :=
  match cpu with
  | .z80 => decodeZ80 bytes
  | .m6502 => decodeM6502 bytes

/-! ## A numbered word of the opcode table -/

/-- The four bytes of the number `w`, the first byte in bits 7..0. -/
def wordBytes (w : Nat) : List Byte :=
  [BitVec.ofNat 8 w, BitVec.ofNat 8 (w / 0x100), BitVec.ofNat 8 (w / 0x10000), BitVec.ofNat 8 (w / 0x1000000)]

/-- How many bits the opcode table gives an instruction: its length, and two bytes for the rows of format `ZPFX` (R220). -/
def Instr.tableBits (i : Instr) : Nat := 8 * (encode i).length

/-- Whether an instruction may be the one meant by a table word of `nbits` bits: the row has just that many. -/
def fits (nbits : Nat) (i : Instr) : Bool := i.tableBits == nbits || (i.isPrefix && nbits == 8)

/-- Whether an instruction is the illegal row of the 6502 (R648). -/
def Instr.isIllegal6502 : Instr → Bool
  | .mIllegal _ => true
  | _ => false

/-- Which variant's row a table word stands for, with the instruction read. The opcode table numbers the words of the two CPU
variants alike, so the number of bits decides: the Z80 row of that length, else the documented 6502 row of that length, else the
longer Z80 row, else the 6502's. DESIGN CHOICE, log 13. -/
def tableChoice (nbits w : Nat) : Option (Cpu × Instr) :=
  match decodeZ80 (wordBytes w), decodeM6502 (wordBytes w) with
  | .ok i, .ok j =>
    if fits nbits i then some (.z80, i)
    else if fits nbits j && !j.isIllegal6502 then some (.m6502, j)
    else if nbits ≤ i.tableBits then some (.z80, i)
    else some (.m6502, j)
  | .ok i, .error _ => some (.z80, i)
  | .error _, .ok j => some (.m6502, j)
  | .error _, .error _ => none

/-- The instruction the decoder reads from an instruction whose bits are `w`, numbered as spec/opcode_table.json numbers them. -/
def decodeTableWord (nbits w : Nat) : Option Instr := (tableChoice nbits w).map Prod.snd

end Sys2Proof
end

