-- ==== Sys2Proof/Machine/Memory.lean ====
section
/-! DEFINITION. Byte memory as plain data: a list of (address, byte) pairs in one canonical form (addresses strictly rising, no
entry equal to what an unlisted address reads as). Used for CPU-visible RAM (spec/20_memory.md R130) and for video memory (R65). -/
namespace Sys2Proof.Machine

/-- What an unlisted address reads as. For video memory this is the reset content (R65, R904). For CPU-visible RAM the spec gives
none: DESIGN CHOICE, unsafe, log 3. -/
def unlisted : Byte := 0

/-- The byte at address `a`. -/
def Memory.read : List Host.Cell → Nat → Byte
  | [], _ => unlisted
  | (k, v) :: rest, a => if a = k then v else Memory.read rest a

/-- The list without any entry for address `a`. -/
def Memory.erase : List Host.Cell → Nat → List Host.Cell
  | [], _ => []
  | (k, v) :: rest, a => if a = k then Memory.erase rest a else (k, v) :: Memory.erase rest a

/-- The list with an entry for address `a` put before the first entry of a higher address. -/
def Memory.insert : List Host.Cell → Nat → Byte → List Host.Cell
  | [], a, v => [(a, v)]
  | (k, w) :: rest, a, v => if a < k then (a, v) :: (k, w) :: rest else (k, w) :: Memory.insert rest a v

/-- Writes `v` at address `a`. Writing what an unlisted address reads as removes the entry. -/
def Memory.write (m : List Host.Cell) (a : Nat) (v : Byte) : List Host.Cell :=
  if v = unlisted then Memory.erase m a else Memory.insert (Memory.erase m a) a v

/-- Every address is at least `lo` and below `size`, addresses rise strictly, no entry is what an unlisted address reads as. -/
def Memory.wfFrom (size : Nat) : Nat → List Host.Cell → Bool
  | _, [] => true
  | lo, (a, v) :: rest => decide (lo ≤ a) && decide (a < size) && decide (v ≠ unlisted) && Memory.wfFrom size (a + 1) rest

/-- The canonical form of a memory of `size` bytes. -/
def Memory.wf (size : Nat) (m : List Host.Cell) : Bool := Memory.wfFrom size 0 m

end Sys2Proof.Machine
end

