-- ==== Sys2Proof/Machine/VdpRegs.lean ====
section
/-! DEFINITION. The VDP's register bank as data: legal-bit masks, screen mode, table addresses and address masks
(spec/48_vdp_ports.md R691, R692, R696 to R703; fields of spec/10_state.md R55 to R58). -/
namespace Sys2Proof

/-- `mask[n]`: the bits register `n` keeps (R692). -/
def regMask (n : BitVec 3) : Byte :=
  match n.toNat with
  | 0 => 0x03
  | 1 => 0xFB
  | 2 => 0x0F
  | 3 => 0xFF
  | 4 => 0x07
  | 5 => 0x7F
  | 6 => 0x07
  | _ => 0xFF

/-- `VRn` (R54). -/
def VdpRegs.get (r : VdpRegs) (n : BitVec 3) : Byte :=
  match n.toNat with
  | 0 => r.r0
  | 1 => r.r1
  | 2 => r.r2
  | 3 => r.r3
  | 4 => r.r4
  | 5 => r.r5
  | 6 => r.r6
  | _ => r.r7

/-- The bank with `VRn` replaced whole (R693). -/
def VdpRegs.set (r : VdpRegs) (n : BitVec 3) (v : Byte) : VdpRegs :=
  match n.toNat with
  | 0 => { r with r0 := v }
  | 1 => { r with r1 := v }
  | 2 => { r with r2 := v }
  | 3 => { r with r3 := v }
  | 4 => { r with r4 := v }
  | 5 => { r with r5 := v }
  | 6 => { r with r6 := v }
  | _ => { r with r7 := v }

/-- The bank under its legal-bit masks: what `Reset` stores of an init vector (R54, R904). -/
def VdpRegs.masked (r : VdpRegs) : VdpRegs :=
  ⟨r.r0 &&& regMask 0, r.r1 &&& regMask 1, r.r2 &&& regMask 2, r.r3 &&& regMask 3,
   r.r4 &&& regMask 4, r.r5 &&& regMask 5, r.r6 &&& regMask 6, r.r7 &&& regMask 7⟩

/-- `VR0.M3` (R55). -/
def VdpRegs.m3 (r : VdpRegs) : Bool := r.r0.getLsbD 1

/-- `VR1.VRAM16K` (R56). -/
def VdpRegs.vram16k (r : VdpRegs) : Bool := r.r1.getLsbD 7

/-- `VR1.BLANK`: 1 enables the display (R56). -/
def VdpRegs.display (r : VdpRegs) : Bool := r.r1.getLsbD 6

/-- `VR1.IE` (R56). -/
def VdpRegs.ie (r : VdpRegs) : Bool := r.r1.getLsbD 5

/-- `VR1.M1` (R56). -/
def VdpRegs.m1 (r : VdpRegs) : Bool := r.r1.getLsbD 4

/-- `VR1.M2` (R56). -/
def VdpRegs.m2 (r : VdpRegs) : Bool := r.r1.getLsbD 3

/-- `VR1.SIZE`: 1 selects 16x16 sprites (R56). -/
def VdpRegs.size16 (r : VdpRegs) : Bool := r.r1.getLsbD 1

/-- `VR1.MAG`: 1 doubles every sprite pixel (R56). -/
def VdpRegs.mag (r : VdpRegs) : Bool := r.r1.getLsbD 0

/-- Rows and columns of a sprite pattern: 8 or 16 (R771). -/
def VdpRegs.spriteSide (r : VdpRegs) : Nat := if r.size16 then 16 else 8

/-- 1 when sprite pixels are doubled, else 0 (R771). -/
def VdpRegs.magShift (r : VdpRegs) : Nat := if r.mag then 1 else 0

/-- The side of the square a sprite covers on screen: 8, 16 or 32 (R771). -/
def VdpRegs.spriteHeight (r : VdpRegs) : Nat := r.spriteSide * 2 ^ r.magShift

/-- `CFG.mode_decode(k)` with `k = (M1 << 2) OR (M2 << 1) OR M3` (R696). -/
def ModeTable.decode (t : ModeTable) (m1 m2 m3 : Bool) : ScreenMode :=
  match m1, m2, m3 with
  | false, false, false => t.k0
  | false, false, true => t.k1
  | false, true, false => t.k2
  | false, true, true => t.k3
  | true, false, false => t.k4
  | true, false, true => t.k5
  | true, true, false => t.k6
  | true, true, true => t.k7

/-- `MODE` of a register bank (R696). -/
def modeOf (t : ModeTable) (r : VdpRegs) : ScreenMode := t.decode r.m1 r.m2 r.m3

/-- The cached table addresses and masks of R64. -/
structure Tables where
  vramMask : VAddr
  nametab : VAddr
  coltab : VAddr
  patgen : VAddr
  satab : VAddr
  sprgen : VAddr
  namemask : VAddr
  colmask : VAddr
  patmask : VAddr
  satmask : VAddr
  deriving DecidableEq, Repr, Inhabited

/-- `VRAM_MASK` of a register bank (R697). -/
def vramMaskOf (r : VdpRegs) : VAddr := if r.vram16k then 0x3FFF else 0x0FFF

/-- `(v AND m) << n` as a 14-bit address, the common form of R698 to R702. -/
def tableField (v m : Byte) (n : Nat) : VAddr := (v &&& m).setWidth 14 <<< n

/-- The cached addresses and masks as functions of `VR0` to `VR6` and `MODE` (R697 to R703). -/
def tablesOf (mode : ScreenMode) (r : VdpRegs) : Tables where
  vramMask := vramMaskOf r
  nametab := tableField r.r2 0x0F 10 &&& vramMaskOf r
  coltab := if mode = .graphics2 then tableField r.r3 0x80 6 &&& vramMaskOf r else tableField r.r3 0xFF 6 &&& vramMaskOf r
  patgen := if mode = .graphics2 then tableField r.r4 0x04 11 &&& vramMaskOf r else tableField r.r4 0x07 11 &&& vramMaskOf r
  satab := tableField r.r5 0x7F 7 &&& vramMaskOf r
  sprgen := tableField r.r6 0x07 11 &&& vramMaskOf r
  namemask := 0x3FFF
  colmask := if mode = .graphics2 then tableField r.r3 0x7F 6 ||| 0x3F else 0x3FFF
  patmask := if mode = .graphics2 then tableField r.r4 0x03 11 ||| 0x07FF else 0x3FFF
  satmask := 0x3FFF

/-- The high nibble of a byte as a colour index (R58, R212). -/
def hiPixel (v : Byte) : Pixel := v.extractLsb' 4 4

/-- The low nibble of a byte as a colour index (R58, R212). -/
def loPixel (v : Byte) : Pixel := v.extractLsb' 0 4

end Sys2Proof
end

