-- ==== Sys2Proof/Machine/Parts.lean ====
section
/-! DEFINITION. The parts of the state, one record each, and their reset values (spec/10_state.md sections 2 to 5,
spec/70_reset_and_hazards.md R901 to R904), the driver's inputs and the machine's output events. -/
namespace Sys2Proof.Machine

/-- `IM` (R42). -/
inductive IntMode where
  | im0
  | im1
  | im2
  deriving DecidableEq, Repr, Inhabited

/-- The Z80 record (R32 to R45). -/
structure Z80 where
  a : Byte
  f : Byte
  b : Byte
  c : Byte
  d : Byte
  e : Byte
  h : Byte
  l : Byte
  aAlt : Byte
  fAlt : Byte
  bAlt : Byte
  cAlt : Byte
  dAlt : Byte
  eAlt : Byte
  hAlt : Byte
  lAlt : Byte
  ix : Word
  iy : Word
  sp : Word
  pc : Word
  i : Byte
  r : Byte
  iff1 : Bool
  iff2 : Bool
  im : IntMode
  icount : Int
  grace : Bool
  ibackup : Int
  halted : Bool
  deriving DecidableEq, Repr, Inhabited

/-- The Z80 after `Reset` (R901). The registers the spec calls unspecified are 0: DESIGN CHOICE, unsafe, log 6. -/
def Z80.reset : Z80 where
  a := 0xFF
  f := 0xFF
  b := 0
  c := 0
  d := 0
  e := 0
  h := 0
  l := 0
  aAlt := 0
  fAlt := 0
  bAlt := 0
  cAlt := 0
  dAlt := 0
  eAlt := 0
  hAlt := 0
  lAlt := 0
  ix := 0
  iy := 0
  sp := 0xFFFF
  pc := 0x0000
  i := 0
  r := 0
  iff1 := false
  iff2 := false
  im := .im0
  icount := 0
  grace := false
  ibackup := 0
  halted := false

/-- The 6502 record (R47 to R51); the six stored bits of `P` are one field each (R50). -/
structure M6502 where
  a : Byte
  x : Byte
  y : Byte
  s : Byte
  pc : Word
  fn : Bool
  fv : Bool
  fd : Bool
  fi : Bool
  fz : Bool
  fc : Bool
  cycLine : Nat
  deriving DecidableEq, Repr, Inhabited

/-- The 6502 after `Reset` with the reset vector `pc` (R902). The registers and flags the spec calls unspecified are 0: DESIGN
CHOICE, unsafe, log 7. -/
def M6502.reset (pc : Word) : M6502 where
  a := 0
  x := 0
  y := 0
  s := 0xFD
  pc := pc
  fn := false
  fv := false
  fd := false
  fi := true
  fz := false
  fc := false
  cycLine := 0

/-- The pending requests of the interrupt controller (R53). -/
structure Pending where
  nmi : Bool
  int : Option Byte
  quit : Bool
  deriving DecidableEq, Repr, Inhabited

/-- The interrupt controller after `Reset` (R903). -/
def Pending.reset : Pending := ⟨false, none, false⟩

/-- `FLIPFLOP` (R61). -/
inductive FlipFlop where
  | expectLowOrData
  | expectHigh
  deriving DecidableEq, Repr, Inhabited

/-- The VDP record (R54 to R68). -/
structure Vdp where
  regs : VdpRegs
  fg : Pixel
  bg : Pixel
  vstat : Byte
  vaddr : VAddr
  flipflop : FlipFlop
  ctrlLow : Byte
  rdlatch : Byte
  mode : ScreenMode
  tab : Tables
  /-- `VRAM` as a canonical list of cells (R65) -/
  vram : List Host.Cell
  /-- `FB`, 192 rows of 256 pixels (R67) -/
  fb : List (List Pixel)
  curline : Nat
  deriving DecidableEq, Repr, Inhabited

/-- The VDP after `Reset` (R904). -/
def Vdp.reset (cfg : Config) : Vdp where
  regs := cfg.vdpInit.masked
  fg := hiPixel cfg.vdpInit.masked.r7
  bg := loPixel cfg.vdpInit.masked.r7
  vstat := 0
  vaddr := 0
  flipflop := .expectLowOrData
  ctrlLow := 0
  rdlatch := 0
  mode := modeOf cfg.modeDecode cfg.vdpInit.masked
  tab := tablesOf (modeOf cfg.modeDecode cfg.vdpInit.masked) cfg.vdpInit.masked
  vram := []
  fb := List.replicate 192 (List.replicate 256 0)
  curline := 0

/-- The saved state: the whole of `CPU`, `IC` and `VDP` and nothing else (R70, R912). The byte layout is the implementation's
choice and stays abstract: log 23. -/
structure Blob where
  z : Z80
  m : M6502
  ic : Pending
  vdp : Vdp
  deriving DecidableEq, Repr

/-- What the driver may do between two calls of `Execute`, beside its iterations (R10, R690, R824, R900, R912, R927). Its own
`stepScanline` is a call out of turn whose result it may or may not route by an `inject` (log 25). -/
inductive DriverAction where
  | reset
  | save
  | restore (blob : Blob)
  | writeRegister (index value : Byte)
  | stepScanline
  | call (c : CoreCall)
  deriving DecidableEq, Repr

/-- One turn of the driver: what it does first, and then with the budget `b` an iteration (R827) when `inTurn` holds, an `Execute`
alone when not (R927). -/
structure DriverLine where
  actions : List DriverAction
  budget : Nat
  inTurn : Bool
  deriving DecidableEq, Repr

/-- Where in the driver iteration the machine stands (R827, R828, R842): before an iteration, before the entry sample point of
`Execute`, in its loop, before `StepScanline`, or left by the driver after a stop. The model's own, log 11. -/
inductive Phase where
  | iterStart
  | execEntry
  | execLoop
  | scanline
  | stopped
  deriving DecidableEq, Repr, Inhabited

/-- The outputs of the core: hook calls and results of entry points, in the order they happen. The model's own, log 18. -/
inductive Event where
  /-- a `ReadByte` answered outside the core (R131) -/
  | readByte (a : Word) (v : Byte)
  /-- a `WriteByte` call, wherever the platform routes it (R131) -/
  | writeByte (a : Word) (v : Byte)
  /-- an `InPort` answered outside the core (R133) -/
  | inPort (p : Word) (v : Byte)
  /-- an `OutPort` call, wherever the platform routes it (R133) -/
  | outPort (p : Word) (v : Byte)
  /-- `IllegalOpHook(info)` (R821, R822) -/
  | illegalOp (a : Word) (bytes : List Byte)
  /-- `FrameReadyHook(FB)` (R756) -/
  | frameReady (fb : List (List Pixel))
  /-- `BackdropHook(BG)` (R706) -/
  | backdrop (bg : Pixel)
  /-- the answer of `PollHook()` (R843) -/
  | polled (req : Request)
  /-- the byte a port read by the driver or by a hook returned to it (R716, R718) -/
  | driverRead (v : Byte)
  /-- the result of a `StepScanline` that the driver called itself (R752) -/
  | stepped (irq : Bool)
  /-- the value `Save()` returned (R912) -/
  | saved (blob : Blob)
  /-- the result `(nextPC, stop)` of `Execute` (R828, R842) -/
  | executed (pc : Word) (stop : Bool)
  deriving DecidableEq, Repr

end Sys2Proof.Machine
end

