-- ==== Sys2Proof/Machine/Flags.lean ====
section
/-! DEFINITION. Every flag computation of both CPU variants, as functions of operands and old flags: Z80 in
spec/41_z80_alu.md R290 to R294, R310 to R317, spec/42_z80_rotate_bit.md R350 to R367, spec/44_z80_block_io.md R451 to R467;
6502 in spec/46_m6502_a.md R541, R575 to R580. -/
namespace Sys2Proof.Machine

/-! ## The Z80 flag byte (R37) -/

/-- The flag byte from its eight bits, `S` first (R37). -/
def mkF (s z f5 h f3 pv n c : Bool) : Byte :=
  BitVec.ofBool s ++ BitVec.ofBool z ++ BitVec.ofBool f5 ++ BitVec.ofBool h ++ BitVec.ofBool f3 ++ BitVec.ofBool pv
    ++ BitVec.ofBool n ++ BitVec.ofBool c

/-- `F.S` -/
def flagS (f : Byte) : Bool := f.getLsbD 7

/-- `F.Z` -/
def flagZ (f : Byte) : Bool := f.getLsbD 6

/-- `F.F5` -/
def flag5 (f : Byte) : Bool := f.getLsbD 5

/-- `F.H` -/
def flagH (f : Byte) : Bool := f.getLsbD 4

/-- `F.F3` -/
def flag3 (f : Byte) : Bool := f.getLsbD 3

/-- `F.PV` -/
def flagPV (f : Byte) : Bool := f.getLsbD 2

/-- `F.N` -/
def flagN (f : Byte) : Bool := f.getLsbD 1

/-- `F.C` -/
def flagC (f : Byte) : Bool := f.getLsbD 0

/-- A flag byte with `sz53(v)` and the four other flags given (R290). -/
def sz53 (v : Byte) (h pv n c : Bool) : Byte := mkF v.msb (v == 0) (v.getLsbD 5) h (v.getLsbD 3) pv n c

/-- A flag byte with `sz53p(v)` and the three other flags given (R290). -/
def sz53p (v : Byte) (h n c : Bool) : Byte := sz53 v h (parity v) n c

/-! ## 8-bit arithmetic and logic: each gives the result and the flag byte -/

/-- `add8(a, b, c)` (R291). -/
def add8 (a b : Byte) (c : Bool) : Byte × Byte :=
  let t := a.toNat + b.toNat + c.toNat
  let res := BitVec.ofNat 8 t
  (res, sz53 res (decide (0x0F < loNib a + loNib b + c.toNat)) ((a ^^^ res) &&& (b ^^^ res)).msb false (decide (0xFF < t)))

/-- The half borrow of `a - b - c` (R292). -/
def subHalf (a b : Byte) (c : Bool) : Bool := decide ((loNib a : Int) - loNib b - c.toNat < 0)

/-- The result of `a - b - c` modulo 256 (R292). -/
def sub8Res (a b : Byte) (c : Bool) : Byte := BitVec.ofInt 8 ((a.toNat : Int) - b.toNat - c.toNat)

/-- The borrow of `a - b - c` (R292). -/
def subBorrow (a b : Byte) (c : Bool) : Bool := decide ((a.toNat : Int) - b.toNat - c.toNat < 0)

/-- `sub8(a, b, c)` (R292). -/
def sub8 (a b : Byte) (c : Bool) : Byte × Byte :=
  let res := sub8Res a b c
  (res, sz53 res (subHalf a b c) ((a ^^^ b) &&& (a ^^^ res)).msb true (subBorrow a b c))

/-- The flags of `CP s`: those of `sub8`, with `F5` and `F3` from the operand (R303). -/
def cpFlags (a s : Byte) : Byte :=
  let res := sub8Res a s false
  mkF res.msb (res == 0) (s.getLsbD 5) (subHalf a s false) (s.getLsbD 3) ((a ^^^ s) &&& (a ^^^ res)).msb true (subBorrow a s false)

/-- `inc8(v)`; `f` is the old flag byte (R294). -/
def inc8 (v f : Byte) : Byte × Byte :=
  (v + 1, sz53 (v + 1) (loNib v == 0x0F) (v == 0x7F) false (flagC f))

/-- `dec8(v)`; `f` is the old flag byte (R294). -/
def dec8 (v f : Byte) : Byte × Byte :=
  (v - 1, sz53 (v - 1) (loNib v == 0) (v == 0x80) true (flagC f))

/-- The eight operations `alu` on the accumulator (R176, R296 to R303). -/
inductive AluOp where
  | add | adc | sub | sbc | and | xor | or | cp
  deriving DecidableEq, Repr

/-- The new `A` and `F` of an operation on `A = a`, `F = f` with operand `s` (R293, R296 to R303). -/
def AluOp.apply (op : AluOp) (a f s : Byte) : Byte × Byte :=
  match op with
  | .add => add8 a s false
  | .adc => add8 a s (flagC f)
  | .sub => sub8 a s false
  | .sbc => sub8 a s (flagC f)
  | .and => (a &&& s, sz53p (a &&& s) true false false)
  | .xor => (a ^^^ s, sz53p (a ^^^ s) false false false)
  | .or => (a ||| s, sz53p (a ||| s) false false false)
  | .cp => (a, cpFlags a s)

/-- `DAA`: the correction `corr` (R310). -/
def daaCorr (a f : Byte) : Byte :=
  (if flagH f ∨ 9 < loNib a then 0x06 else 0) + (if flagC f ∨ 0x99 < a.toNat then 0x60 else 0)

/-- `DAA` (R310). -/
def daa (a f : Byte) : Byte × Byte :=
  let res := if flagN f then a - daaCorr a f else a + daaCorr a f
  let h := if flagN f then flagH f && decide (loNib a < 6) else decide (9 < loNib a)
  (res, sz53p res h (flagN f) (flagC f || decide (0x99 < a.toNat)))

/-- `CPL` (R311). -/
def cpl (a f : Byte) : Byte × Byte :=
  (a ^^^ 0xFF, mkF (flagS f) (flagZ f) ((a ^^^ 0xFF).getLsbD 5) true ((a ^^^ 0xFF).getLsbD 3) (flagPV f) true (flagC f))

/-- The flags of `CCF` (R313). -/
def ccf (a f : Byte) : Byte :=
  mkF (flagS f) (flagZ f) (a.getLsbD 5) (flagC f) (a.getLsbD 3) (flagPV f) false (!flagC f)

/-- The flags of `SCF` (R314). -/
def scf (a f : Byte) : Byte :=
  mkF (flagS f) (flagZ f) (a.getLsbD 5) false (a.getLsbD 3) (flagPV f) false true

/-- The flags of `LD A,I` and `LD A,R`, with `v` the byte loaded (R245, R246). -/
def loadSpecialFlags (v f : Byte) (iff2 : Bool) : Byte := sz53 v false iff2 false (flagC f)

/-! ## 16-bit arithmetic -/

/-- The low 12 bits of a word as a number. -/
def lo12 (v : Word) : Nat := (v.extractLsb' 0 12).toNat

/-- `ADD HL,ss` and `ADD XY,pp` (R315, R318). -/
def add16 (x y : Word) (f : Byte) : Word × Byte :=
  let t := x.toNat + y.toNat
  let res := BitVec.ofNat 16 t
  (res, mkF (flagS f) (flagZ f) (res.getLsbD 13) (decide (0x0FFF < lo12 x + lo12 y)) (res.getLsbD 11) (flagPV f) false
    (decide (0xFFFF < t)))

/-- `ADC HL,ss` (R316). -/
def adc16 (x y : Word) (f : Byte) : Word × Byte :=
  let c := (flagC f).toNat
  let t := x.toNat + y.toNat + c
  let res := BitVec.ofNat 16 t
  (res, mkF res.msb (res == 0) (res.getLsbD 13) (decide (0x0FFF < lo12 x + lo12 y + c)) (res.getLsbD 11)
    ((x ^^^ res) &&& (y ^^^ res)).msb false (decide (0xFFFF < t)))

/-- `SBC HL,ss` (R317). -/
def sbc16 (x y : Word) (f : Byte) : Word × Byte :=
  let c := (flagC f).toNat
  let t := (x.toNat : Int) - y.toNat - c
  let res := BitVec.ofInt 16 t
  (res, mkF res.msb (res == 0) (res.getLsbD 13) (decide ((lo12 x : Int) - lo12 y - c < 0)) (res.getLsbD 11)
    ((x ^^^ y) &&& (x ^^^ res)).msb true (decide (t < 0)))

/-! ## Rotates, shifts and bit tests -/

/-- The result and the bit shifted out of the eight rotates and shifts, `cin` being the old carry (R355 to R361, R504). -/
def rotate (rot : Rot) (v : Byte) (cin : Bool) : Byte × Bool :=
  match rot with
  | .rlc => ((v <<< 1) ||| boolByte v.msb, v.msb)
  | .rrc => ((v >>> 1) ||| (boolByte (v.getLsbD 0) <<< 7), v.getLsbD 0)
  | .rl => ((v <<< 1) ||| boolByte cin, v.msb)
  | .rr => ((v >>> 1) ||| (boolByte cin <<< 7), v.getLsbD 0)
  | .sla => (v <<< 1, v.msb)
  | .sra => ((v >>> 1) ||| (v &&& 0x80), v.getLsbD 0)
  | .sll => ((v <<< 1) ||| 1, v.msb)
  | .srl => (v >>> 1, v.getLsbD 0)

/-- A rotate or shift on an operand `m`: result and flag byte (R350). -/
def rotateM (rot : Rot) (v f : Byte) : Byte × Byte :=
  let r := rotate rot v (flagC f)
  (r.1, sz53p r.1 false false r.2)

/-- `RLCA`, `RLA`, `RRCA`, `RRA`: result and flag byte (R351 to R354). -/
def rotateA (rot : Rot) (a f : Byte) : Byte × Byte :=
  let r := rotate rot a (flagC f)
  (r.1, mkF (flagS f) (flagZ f) (r.1.getLsbD 5) false (r.1.getLsbD 3) (flagPV f) false r.2)

/-- The flags of `BIT b` on the byte `v`, with the bits that `F5` and `F3` take given (R365 to R367). -/
def bitFlags (b : BitVec 3) (v : Byte) (f5 f3 : Bool) (f : Byte) : Byte :=
  let t := v &&& bitMask b
  mkF (b == 7 && t != 0) (t == 0) f5 true f3 (t == 0) false (flagC f)

/-! ## Block instructions -/

/-- The flags of `LDI` and `LDD`: `t` the byte moved, `bc` the new `BC` (R451). -/
def ldiFlags (a t f : Byte) (bc : Word) : Byte :=
  let n := a + t
  mkF (flagS f) (flagZ f) (n.getLsbD 1) false (n.getLsbD 3) (bc != 0) false (flagC f)

/-- The flags of `CPI` and `CPD`: `t` the byte read, `bc` the new `BC` (R455). -/
def cpiFlags (a t f : Byte) (bc : Word) : Byte :=
  let res := a - t
  let h := subHalf a t false
  let n := res - boolByte h
  mkF res.msb (res == 0) (n.getLsbD 1) h (n.getLsbD 3) (bc != 0) true (flagC f)

/-- The flags of the block input and output instructions: `t` the byte moved, `b` the new `B`, `j` the byte added to `t` to form
`k` (R461, R463, R467, R469). -/
def blockIoFlags (t b j : Byte) : Byte :=
  let k := t.toNat + j.toNat
  sz53 b (decide (0xFF < k)) (parity ((BitVec.ofNat 8 k &&& 7) ^^^ b)) t.msb (decide (0xFF < k))

/-! ## 6502 -/

/-- `setNZ(v)` (R541). -/
def M6502.setNZ (v : Byte) (m : M6502) : M6502 := { m with fn := v.msb, fz := v == 0 }

/-- `P_push(b)`: the byte `N V 1 b D I Z C` (R50, R540). -/
def M6502.pushedP (b : Bool) (m : M6502) : Byte := mkF m.fn m.fv true b m.fd m.fi m.fz m.fc

/-- Loads the six stored bits of `P` from a pulled byte, discarding bits 5 and 4 (R571, R646). -/
def M6502.loadP (t : Byte) (m : M6502) : M6502 :=
  { m with fn := t.getLsbD 7, fv := t.getLsbD 6, fd := t.getLsbD 3, fi := t.getLsbD 2, fz := t.getLsbD 1, fc := t.getLsbD 0 }

/-- The results of an addition or subtraction: `A` and the four flags. -/
structure SumResult where
  res : Byte
  n : Bool
  v : Bool
  z : Bool
  c : Bool
  deriving DecidableEq, Repr

/-- `ADC` in binary mode (R576). -/
def adcBinary (a v : Byte) (c : Bool) : SumResult :=
  let t := a.toNat + v.toNat + c.toNat
  let res := BitVec.ofNat 8 t
  ⟨res, res.msb, ((a ^^^ res) &&& (v ^^^ res)).msb, res == 0, decide (0xFF < t)⟩

/-- The low-digit sum `al` of decimal `ADC`, adjusted (R577). -/
def adcLow (a v : Byte) (c : Bool) : Nat :=
  let al := loNib a + loNib v + c.toNat
  if 0x0A ≤ al then (al + 0x06) % 16 + 0x10 else al

/-- The sum `t` of decimal `ADC` before the high-digit adjustment (R577). -/
def adcHigh (a v : Byte) (c : Bool) : Nat := (a &&& 0xF0).toNat + (v &&& 0xF0).toNat + adcLow a v c

/-- `ADC` in decimal mode (R577). -/
def adcDecimal (a v : Byte) (c : Bool) : SumResult :=
  let t := adcHigh a v c
  let tb := BitVec.ofNat 8 t
  let t' := if 0xA0 ≤ t then t + 0x60 else t
  ⟨BitVec.ofNat 8 t', tb.msb, ((a ^^^ tb) &&& (v ^^^ tb)).msb, (a.toNat + v.toNat + c.toNat) % 256 == 0, decide (0x100 ≤ t')⟩

/-- `SBC` in binary mode (R578). -/
def sbcBinary (a v : Byte) (c : Bool) : SumResult :=
  let t := (a.toNat : Int) - v.toNat - (1 - c.toNat)
  let res := BitVec.ofInt 8 t
  ⟨res, res.msb, ((a ^^^ v) &&& (a ^^^ res)).msb, res == 0, decide (0 ≤ t)⟩

/-- The low-digit difference `al` of decimal `SBC`, adjusted (R579). -/
def sbcLow (a v : Byte) (c : Bool) : Int :=
  let al := (loNib a : Int) - loNib v - (1 - c.toNat)
  if al < 0 then (al - 0x06) % 16 - 0x10 else al

/-- `SBC` in decimal mode: only `A` differs from the binary result (R579). -/
def sbcDecimal (a v : Byte) (c : Bool) : SumResult :=
  let t := ((a &&& 0xF0).toNat : Int) - (v &&& 0xF0).toNat + sbcLow a v c
  let t' := if t < 0 then t - 0x60 else t
  { sbcBinary a v c with res := BitVec.ofInt 8 t' }

/-- The record with `A` and the four flags of a sum. -/
def M6502.takeSum (r : SumResult) (m : M6502) : M6502 := { m with a := r.res, fn := r.n, fv := r.v, fz := r.z, fc := r.c }

/-- `ADC` with the operand `v` (R576, R577). -/
def M6502.adc (v : Byte) (m : M6502) : M6502 := m.takeSum (if m.fd then adcDecimal m.a v m.fc else adcBinary m.a v m.fc)

/-- `SBC` with the operand `v` (R578, R579). -/
def M6502.sbc (v : Byte) (m : M6502) : M6502 := m.takeSum (if m.fd then sbcDecimal m.a v m.fc else sbcBinary m.a v m.fc)

/-- The compares: register `r` against the operand `v` (R580 to R582). -/
def M6502.compare (r v : Byte) (m : M6502) : M6502 := { (m.setNZ (r - v)) with fc := decide (v.toNat ≤ r.toNat) }

/-- `BIT` with the operand `v` (R575). -/
def M6502.bitTest (v : Byte) (m : M6502) : M6502 := { m with fz := m.a &&& v == 0, fn := v.getLsbD 7, fv := v.getLsbD 6 }

end Sys2Proof.Machine
end

