-- ==== Sys2Proof/Machine/Operands.lean ====
section
/-! DEFINITION. Every operand form of the Z80: registers, register pairs, index registers and their halves, indexed addresses,
conditions (spec/10_state.md R32 to R34, spec/30_encoding.md R173 to R177, spec/43_z80_control.md R400). -/
namespace Sys2Proof.Machine

/-- `AF` (R32). -/
def Z80.af (z : Z80) : Word := mk16 z.a z.f

/-- `BC` (R32). -/
def Z80.bc (z : Z80) : Word := mk16 z.b z.c

/-- `DE` (R32). -/
def Z80.de (z : Z80) : Word := mk16 z.d z.e

/-- `HL` (R32). -/
def Z80.hl (z : Z80) : Word := mk16 z.h z.l

/-- Writes `AF` (R32). -/
def Z80.setAF (v : Word) (z : Z80) : Z80 := { z with a := hi8 v, f := lo8 v }

/-- Writes `BC` (R32). -/
def Z80.setBC (v : Word) (z : Z80) : Z80 := { z with b := hi8 v, c := lo8 v }

/-- Writes `DE` (R32). -/
def Z80.setDE (v : Word) (z : Z80) : Z80 := { z with d := hi8 v, e := lo8 v }

/-- Writes `HL` (R32). -/
def Z80.setHL (v : Word) (z : Z80) : Z80 := { z with h := hi8 v, l := lo8 v }

/-- Reads the register of code `r` (R173). -/
def Z80.get8 (z : Z80) : Reg8 → Byte
  | .b => z.b
  | .c => z.c
  | .d => z.d
  | .e => z.e
  | .h => z.h
  | .l => z.l
  | .a => z.a

/-- Writes the register of code `r` (R173). -/
def Z80.set8 (r : Reg8) (v : Byte) (z : Z80) : Z80 :=
  match r with
  | .b => { z with b := v }
  | .c => { z with c := v }
  | .d => { z with d := v }
  | .e => { z with e := v }
  | .h => { z with h := v }
  | .l => { z with l := v }
  | .a => { z with a := v }

/-- Reads the register of code `dd` or `ss` (R174). -/
def Z80.getSS (z : Z80) : RegSS → Word
  | .bc => z.bc
  | .de => z.de
  | .hl => z.hl
  | .sp => z.sp

/-- Writes the register of code `dd` or `ss` (R174). -/
def Z80.setSS (r : RegSS) (v : Word) (z : Z80) : Z80 :=
  match r with
  | .bc => z.setBC v
  | .de => z.setDE v
  | .hl => z.setHL v
  | .sp => { z with sp := v }

/-- Reads the register of code `qq` (R174). -/
def Z80.getQQ (z : Z80) : RegQQ → Word
  | .bc => z.bc
  | .de => z.de
  | .hl => z.hl
  | .af => z.af

/-- Writes the register of code `qq` (R174). -/
def Z80.setQQ (r : RegQQ) (v : Word) (z : Z80) : Z80 :=
  match r with
  | .bc => z.setBC v
  | .de => z.setDE v
  | .hl => z.setHL v
  | .af => z.setAF v

/-- Reads `XY` (R171). -/
def Z80.getXY (z : Z80) : XYReg → Word
  | .ix => z.ix
  | .iy => z.iy

/-- Writes `XY` (R171). -/
def Z80.setXY (xy : XYReg) (v : Word) (z : Z80) : Z80 :=
  match xy with
  | .ix => { z with ix := v }
  | .iy => { z with iy := v }

/-- Reads the register of code `pp`, code 2 being `XY` itself (R174). -/
def Z80.getPP (z : Z80) (xy : XYReg) : RegPP → Word
  | .bc => z.bc
  | .de => z.de
  | .xy => z.getXY xy
  | .sp => z.sp

/-- Reads `XYH` or `XYL` (R34, R503). -/
def Z80.getHalf (z : Z80) (xy : XYReg) : Half → Byte
  | .hi => hi8 (z.getXY xy)
  | .lo => lo8 (z.getXY xy)

/-- Writes `XYH` or `XYL` (R34, R503). -/
def Z80.setHalf (xy : XYReg) (l : Half) (v : Byte) (z : Z80) : Z80 :=
  match l with
  | .hi => z.setXY xy (mk16 v (lo8 (z.getXY xy)))
  | .lo => z.setXY xy (mk16 (hi8 (z.getXY xy)) v)

/-- Reads the source of `LD XYH,r'` and `LD XYL,r'` (R503). -/
def Z80.getXYOp (z : Z80) (xy : XYReg) : XYOp → Byte
  | .b => z.b
  | .c => z.c
  | .d => z.d
  | .e => z.e
  | .xyh => z.getHalf xy .hi
  | .xyl => z.getHalf xy .lo
  | .a => z.a

/-- The effective address `(XY + sext_8(d)) mod 2^16` (R140, R177). -/
def Z80.ea (z : Z80) (xy : XYReg) (d : Byte) : Word := z.getXY xy + sext8 d

/-- The truth of the condition `cc` under the flag byte `f` (R175, R400). -/
def holds8 (cc : Cond8) (f : Byte) : Bool :=
  match cc with
  | .nz => !f.getLsbD 6
  | .z => f.getLsbD 6
  | .nc => !f.getLsbD 0
  | .c => f.getLsbD 0
  | .po => !f.getLsbD 2
  | .pe => f.getLsbD 2
  | .p => !f.getLsbD 7
  | .m => f.getLsbD 7

/-- The truth of the condition of `JR cc` under the flag byte `f` (R175, R400). -/
def holds4 (cc : Cond4) (f : Byte) : Bool :=
  match cc with
  | .nz => !f.getLsbD 6
  | .z => f.getLsbD 6
  | .nc => !f.getLsbD 0
  | .c => f.getLsbD 0

/-- The entry address of `RST p`, `p = t * 8` (R414). -/
def rstTarget (t : BitVec 3) : Word := t.setWidth 16 <<< 3

end Sys2Proof.Machine
end

