-- ==== Sys2Proof/Machine/Defaults.lean ====
section
/-! DEFINITION. The default values of the configuration: cycle tables (spec/70_reset_and_hazards.md R930 to R937), the mode decode
table (spec/48_vdp_ports.md R696) and the configuration of State.reset (spec/00_scope.md R13, log 1). -/
namespace Sys2Proof

/-- The unprefixed Z80 costs, rows 0x to 3x of R930. -/
def cycMain0 : List Nat :=
  [4, 10, 7, 6, 4, 4, 7, 4, 4, 11, 7, 6, 4, 4, 7, 4,
   8, 10, 7, 6, 4, 4, 7, 4, 12, 11, 7, 6, 4, 4, 7, 4,
   7, 10, 16, 6, 4, 4, 7, 4, 7, 11, 16, 6, 4, 4, 7, 4,
   7, 10, 13, 6, 11, 11, 10, 4, 7, 11, 13, 6, 4, 4, 7, 4]

/-- The unprefixed Z80 costs, rows 4x to Bx of R930. -/
def cycMain1 : List Nat :=
  [4, 4, 4, 4, 4, 4, 7, 4, 4, 4, 4, 4, 4, 4, 7, 4,
   4, 4, 4, 4, 4, 4, 7, 4, 4, 4, 4, 4, 4, 4, 7, 4,
   4, 4, 4, 4, 4, 4, 7, 4, 4, 4, 4, 4, 4, 4, 7, 4,
   7, 7, 7, 7, 7, 7, 4, 7, 4, 4, 4, 4, 4, 4, 7, 4,
   4, 4, 4, 4, 4, 4, 7, 4, 4, 4, 4, 4, 4, 4, 7, 4,
   4, 4, 4, 4, 4, 4, 7, 4, 4, 4, 4, 4, 4, 4, 7, 4,
   4, 4, 4, 4, 4, 4, 7, 4, 4, 4, 4, 4, 4, 4, 7, 4,
   4, 4, 4, 4, 4, 4, 7, 4, 4, 4, 4, 4, 4, 4, 7, 4]

/-- The unprefixed Z80 costs, rows Cx to Fx of R930 (a prefix byte has no cost of its own here: 0). -/
def cycMain2 : List Nat :=
  [5, 10, 10, 10, 10, 11, 7, 11, 5, 10, 10, 0, 10, 17, 7, 11,
   5, 10, 10, 11, 10, 11, 7, 11, 5, 4, 10, 11, 10, 0, 7, 11,
   5, 10, 10, 19, 10, 11, 7, 11, 5, 4, 10, 4, 10, 0, 7, 11,
   5, 10, 10, 4, 10, 11, 7, 11, 5, 6, 10, 4, 10, 0, 7, 11]

/-- Eight entries of the CB page for one value of `y`: 8 on a register, `m` on `(HL)` (R931). -/
def cycCbRow (m : Nat) : List Nat := [8, 8, 8, 8, 8, 8, m, 8]

/-- `n` copies of a row of costs, one after another. -/
def cycRepeat : Nat → List Nat → List Nat
  | 0, _ => []
  | n + 1, row => row ++ cycRepeat n row

/-- The `0xED` page, rows 4x to 7x and Ax to Bx of R932 (an undefined entry costs `z80_illegal`, entered here as 8). -/
def cycEdMid : List Nat :=
  [12, 12, 15, 20, 8, 14, 8, 9, 12, 12, 15, 20, 8, 14, 8, 9,
   12, 12, 15, 20, 8, 14, 8, 9, 12, 12, 15, 20, 8, 14, 8, 9,
   12, 12, 15, 20, 8, 14, 8, 18, 12, 12, 15, 20, 8, 14, 8, 18,
   12, 12, 15, 20, 8, 14, 8, 8, 12, 12, 15, 20, 8, 14, 8, 8]

/-- Rows Ax and Bx of the `0xED` page (R932). -/
def cycEdBlock : List Nat :=
  [16, 16, 16, 16, 8, 8, 8, 8, 16, 16, 16, 16, 8, 8, 8, 8,
   16, 16, 16, 16, 8, 8, 8, 8, 16, 16, 16, 16, 8, 8, 8, 8]

/-- The `0xDD`/`0xFD` page, rows 0x to 3x of R933 (4 where the byte is no entry of R180). -/
def cycXy0 : List Nat :=
  [4, 4, 4, 4, 4, 4, 4, 4, 4, 15, 4, 4, 4, 4, 4, 4,
   4, 4, 4, 4, 4, 4, 4, 4, 4, 15, 4, 4, 4, 4, 4, 4,
   4, 14, 20, 10, 8, 8, 11, 4, 4, 15, 20, 10, 8, 8, 11, 4,
   4, 4, 4, 4, 23, 23, 19, 4, 4, 15, 4, 4, 4, 4, 4, 4]

/-- The `0xDD`/`0xFD` page, rows 4x to 7x of R933. -/
def cycXy1 : List Nat :=
  [4, 4, 4, 4, 8, 8, 19, 4, 4, 4, 4, 4, 8, 8, 19, 4,
   4, 4, 4, 4, 8, 8, 19, 4, 4, 4, 4, 4, 8, 8, 19, 4,
   8, 8, 8, 8, 8, 8, 19, 8, 8, 8, 8, 8, 8, 8, 19, 8,
   19, 19, 19, 19, 19, 19, 4, 19, 4, 4, 4, 4, 8, 8, 19, 4]

/-- Eight entries of the `0xDD`/`0xFD` arithmetic block (R933). -/
def cycXyAlu : List Nat := [4, 4, 4, 4, 8, 8, 19, 4]

/-- The `0xDD`/`0xFD` page, rows Cx to Fx of R933. -/
def cycXy3 : List Nat :=
  [4, 4, 4, 4, 4, 4, 4, 4, 4, 4, 4, 4, 4, 4, 4, 4,
   4, 4, 4, 4, 4, 4, 4, 4, 4, 4, 4, 4, 4, 4, 4, 4,
   4, 14, 4, 23, 4, 15, 4, 4, 4, 8, 4, 4, 4, 4, 4, 4,
   4, 4, 4, 4, 4, 4, 4, 4, 4, 10, 4, 4, 4, 4, 4, 4]

/-- The 6502 base costs, rows 0x to 7x of R936 (2 where the byte is illegal: `m6502_illegal` governs there). -/
def cycM0 : List Nat :=
  [7, 6, 2, 2, 2, 3, 5, 2, 3, 2, 2, 2, 2, 4, 6, 2,
   2, 5, 2, 2, 2, 4, 6, 2, 2, 4, 2, 2, 2, 4, 7, 2,
   6, 6, 2, 2, 3, 3, 5, 2, 4, 2, 2, 2, 4, 4, 6, 2,
   2, 5, 2, 2, 2, 4, 6, 2, 2, 4, 2, 2, 2, 4, 7, 2,
   6, 6, 2, 2, 2, 3, 5, 2, 3, 2, 2, 2, 3, 4, 6, 2,
   2, 5, 2, 2, 2, 4, 6, 2, 2, 4, 2, 2, 2, 4, 7, 2,
   6, 6, 2, 2, 2, 3, 5, 2, 4, 2, 2, 2, 5, 4, 6, 2,
   2, 5, 2, 2, 2, 4, 6, 2, 2, 4, 2, 2, 2, 4, 7, 2]

/-- The 6502 base costs, rows 8x to Fx of R936. -/
def cycM1 : List Nat :=
  [2, 6, 2, 2, 3, 3, 3, 2, 2, 2, 2, 2, 4, 4, 4, 2,
   2, 6, 2, 2, 4, 4, 4, 2, 2, 5, 2, 2, 2, 5, 2, 2,
   2, 6, 2, 2, 3, 3, 3, 2, 2, 2, 2, 2, 4, 4, 4, 2,
   2, 5, 2, 2, 4, 4, 4, 2, 2, 4, 2, 2, 4, 4, 4, 2,
   2, 6, 2, 2, 3, 3, 5, 2, 2, 2, 2, 2, 4, 4, 6, 2,
   2, 5, 2, 2, 2, 4, 6, 2, 2, 4, 2, 2, 2, 4, 7, 2,
   2, 6, 2, 2, 3, 3, 5, 2, 2, 2, 2, 2, 4, 4, 6, 2,
   2, 5, 2, 2, 2, 4, 6, 2, 2, 4, 2, 2, 2, 4, 7, 2]

/-- The default of `CFG.cyc` (R930 to R937). -/
def CycTables.default : CycTables where
  main := cycMain0 ++ cycMain1 ++ cycMain2
  cb := cycRepeat 8 (cycCbRow 15) ++ cycRepeat 8 (cycCbRow 12) ++ cycRepeat 16 (cycCbRow 15)
  ed := cycRepeat 64 [8] ++ cycEdMid ++ cycRepeat 32 [8] ++ cycEdBlock ++ cycRepeat 64 [8]
  xy := cycXy0 ++ cycXy1 ++ cycRepeat 8 cycXyAlu ++ cycXy3
  xycb := cycRepeat 64 [23] ++ cycRepeat 64 [20] ++ cycRepeat 128 [23]
  ignoredPrefix := 4
  z80Illegal := 8
  djnzTaken := 5
  jrTaken := 5
  callTaken := 7
  retTaken := 6
  blockRepeat := 5
  z80Nmi := 11
  z80IntIm0 := 13
  z80IntIm1 := 13
  z80IntIm2 := 19
  m6502 := cycM0 ++ cycM1
  m6502Illegal := 2
  m6502Int := 7
  pageCross := 1
  branchTaken := 1
  branchPage := 1

/-- The default mode decode table of R696. -/
def ModeTable.default : ModeTable where
  k0 := .graphics1
  k1 := .graphics2
  k2 := .multicolor
  k3 := .multicolor
  k4 := .text
  k5 := .text
  k6 := .text
  k7 := .text

/-- The routes of a platform whose every address is plain RAM (log 4). -/
def ramEverywhere : List Route := [⟨0x0000, 0x0000, .ram⟩]

/-- The port routes of the test platform of P5 (spec/95_test_vectors.md): a port with low byte `0xBF` reaches the VDP's control port, one
with low byte `0xBE` its data port, whatever its high byte. The spec leaves the ports to the platform and gives these to that test
(R133, R853): DESIGN CHOICE, unsafe, log 32. -/
def portsOfP5 : List Route := [⟨0x00FF, 0x00BF, .vdpControl⟩, ⟨0x00FF, 0x00BE, .vdpData⟩]

/-- The configuration of State.reset: the spec's default where R13 gives one; where R13 says OPEN, the values of the spec's own
whole-machine program P5 (spec/95_test_vectors.md). DESIGN CHOICE, log 1. The platform beside it, which R13 does not list, is the
model's choice too: plain RAM at every address (log 4), the VDP at the ports of P5 and every other port outside the core (log 32).
Nothing else in the model depends on it. -/
def Config.default : Config where
  cpu := .z80
  order := .cpuThenVdp
  lineCycles := 228
  trapBadOps := true
  sampleAtGraceEnd := true
  vdpIrqClass := .nmi
  vdpIrqVector := 0xFF
  region := .ntsc
  lineOverride := none
  maxSprites := 4
  modeDecode := ModeTable.default
  statusClearMask := 0xE0
  vdpInit := ⟨0, 0, 0, 0, 0, 0, 0, 0⟩
  palette := []
  backdropScale := ⟨1, 1⟩
  cyc := CycTables.default
  z80Undoc := true
  memMap := ramEverywhere
  portMap := portsOfP5

end Sys2Proof
end

