-- ==== Sys2Proof/Machine/State.lean ====
section
/-! DEFINITION. The state of the machine as plain data (spec/10_state.md R30), the reasons a step can stop, and the state right
after reset (spec/70_reset_and_hazards.md R900 to R904). -/
namespace Sys2Proof.Machine

/-- The state: the record `M = (CPU, IC, VDP)` with the constant `CFG` (R30), the CPU-visible RAM behind the hooks (R131), and
the model's own fields (INVENTORY.md, State). Both CPU records are held and `cfg.cpu` says which one runs (log 2). -/
structure State where
  cfg : Config
  z : Z80
  m : M6502
  ic : Pending
  vdp : Vdp
  /-- the platform's plain RAM, a canonical list of cells (log 3, log 4) -/
  mem : List Host.Cell
  /-- the model's own: where in the driver iteration the machine stands (log 11) -/
  phase : Phase
  /-- the model's own: the argument of the `Execute` call in progress (log 11) -/
  quota : Nat
  /-- the model's own: the `Execute` call in progress is half of an iteration of R827, not a call out of turn (log 25) -/
  inTurn : Bool
  /-- the model's own: what the driver will do, one entry an iteration (log 11) -/
  lines : List DriverLine
  /-- the model's own: how the platform's hooks will answer outside the core (log 5) -/
  hookIn : List HookReply
  /-- the model's own: what `PollHook` will answer (log 17) -/
  polls : List PollReply
  /-- the model's own: the counter that feeds the free values (log 5, log 8) -/
  tick : Nat
  /-- the model's own: the outputs so far, newest first (log 18) -/
  events : List Event
  deriving DecidableEq, Repr

/-- Why a step can fault. The spec names no fault (spec/60_exceptions.md R820). -/
inductive Fault where
  /-- Raised by the fetch if four bytes did not hold an instruction. Safe: it never happens, since every byte string of four
  bytes starts with an instruction of either variant (log 29). -/
  | undecoded
  deriving DecidableEq, Repr

/-- Why a step can be refused. -/
inductive Refusal where
  /-- Raised by an arm of `exec` whose instruction has no meaning yet; no arm is left so. Safe: the machine stops. -/
  | notModelled (mnemonic : String)
  /-- Raised by the accept logic of the Z80 in interrupt mode 0 when the vector byte is no restart opcode, for which the spec
  defines no behaviour (R834, U5). Safe: the machine stops (log 9). -/
  | im0VectorNotRst
  deriving DecidableEq, Repr

/-- The machine as `Reset` finds it at power-on, over memory with nothing listed and with nothing scripted. `Reset` overwrites every
field it names (R900), so only the record of the variant that is not configured keeps its value here (log 27). -/
def State.powerOn (cfg : Config) : State where
  cfg := cfg
  z := Z80.reset
  m := M6502.reset 0x0000
  ic := Pending.reset
  vdp := Vdp.reset cfg
  mem := []
  phase := .iterStart
  quota := 0
  inTurn := true
  lines := []
  hookIn := []
  polls := []
  tick := 0
  events := []

/-- The machine right after reset (R900 to R904), with the configuration of log 1, whose variant is the Z80: the backdrop push is
the one output (R904). `State.resetWith` is the same for any configuration. -/
def State.reset : State :=
  { State.powerOn Config.default with events := [.backdrop (Vdp.reset Config.default).bg] }

end Sys2Proof.Machine
end

