-- ==== Sys2Proof/Machine/Vdp.lean ====
section
/-! DEFINITION. The VDP's port state machine: video memory access, register writes, the two ports (spec/48_vdp_ports.md, spec/20_memory.md
R141). Every operation that returns a value returns it first, then the state. -/
namespace Sys2Proof.Machine

/-- The state with its VDP record changed. -/
def State.onVdp (f : Vdp → Vdp) (s : State) : State := { s with vdp := f s.vdp }

/-- The state with one more output event (log 18). -/
def State.emit (e : Event) (s : State) : State := { s with events := e :: s.events }

/-- `VR(a)`: every read of video memory (R141). -/
def Vdp.vr (v : Vdp) (a : VAddr) : Byte := Memory.read v.vram (a &&& v.tab.vramMask).toNat

/-- `VW(a, b)`: every write of video memory (R141). -/
def Vdp.vw (a : VAddr) (b : Byte) (v : Vdp) : Vdp := { v with vram := Memory.write v.vram (a &&& v.tab.vramMask).toNat b }

/-- `INTLVL = VR1.IE AND VSTAT.F` (R69). -/
def Vdp.intLevel (v : Vdp) : Bool := v.regs.ie && v.vstat.getLsbD 7

/-- Recomputes `MODE` and the cached addresses and masks (R694). -/
def Vdp.refresh (cfg : Config) (v : Vdp) : Vdp :=
  { v with mode := modeOf cfg.modeDecode v.regs, tab := tablesOf (modeOf cfg.modeDecode v.regs) v.regs }

/-- Stores `v` under the mask in `VRn` and does what depends on it: the refresh for `VR0` to `VR6`, the colour pair for `VR7`
(R690, R693, R694, R705). -/
def Vdp.storeRegister (cfg : Config) (n : BitVec 3) (b : Byte) (v : Vdp) : Vdp :=
  if n = 7 then
    { v with regs := v.regs.set n (b &&& regMask n), fg := hiPixel (b &&& regMask n), bg := loPixel (b &&& regMask n) }
  else
    Vdp.refresh cfg { v with regs := v.regs.set n (b &&& regMask n) }

/-- `WriteRegister(index, value)`, with `interruptRequested` as the value (R690, R691, R704, R706). -/
def writeRegister (index value : Byte) (s : State) : Bool × State :=
  let v' := Vdp.storeRegister s.cfg (index.extractLsb' 0 3) value s.vdp
  let s' := s.onVdp fun _ => v'
  (!s.vdp.intLevel && v'.intLevel,
   if index.extractLsb' 0 3 = 7 then s'.emit (.backdrop v'.bg) else s')

/-- The 14-bit address a two-byte control sequence forms (R210). -/
def controlAddress (b low : Byte) : VAddr := b.extractLsb' 0 6 ++ low

/-- Fills the latch from the current address and advances the address (the second half of R712, and R716). -/
def Vdp.prefetch (v : Vdp) : Vdp := { v with rdlatch := v.vr v.vaddr, vaddr := v.vaddr + 1 }

/-- `WriteControlPort(b)`, with `interruptRequested` as the value (R710 to R714). -/
def writeControlPort (b : Byte) (s : State) : Bool × State :=
  match s.vdp.flipflop with
  | .expectLowOrData => (false, s.onVdp fun v => { v with ctrlLow := b, flipflop := .expectHigh })
  | .expectHigh =>
    let s1 := s.onVdp fun v => { v with flipflop := .expectLowOrData }
    match (b.extractLsb' 6 2).toNat with
    | 0 => (false, s1.onVdp fun v => Vdp.prefetch { v with vaddr := controlAddress b v.ctrlLow })
    | 1 => (false, s1.onVdp fun v => { v with vaddr := controlAddress b v.ctrlLow })
    | _ => writeRegister (b &&& 7) s1.vdp.ctrlLow s1

/-- `ReadControlPort()`, the status read (R718). -/
def readControlPort (s : State) : Byte × State :=
  (s.vdp.vstat,
   s.onVdp fun v => { v with vstat := v.vstat &&& ~~~s.cfg.statusClearMask, flipflop := .expectLowOrData })

/-- `ReadDataPort()` (R716). -/
def readDataPort (s : State) : Byte × State :=
  (s.vdp.rdlatch, s.onVdp fun v => { Vdp.prefetch v with flipflop := .expectLowOrData })

/-- `WriteDataPort(b)` (R717). -/
def writeDataPort (b : Byte) (s : State) : State :=
  s.onVdp fun v => { Vdp.vw v.vaddr b v with rdlatch := b, vaddr := v.vaddr + 1, flipflop := .expectLowOrData }

end Sys2Proof.Machine
end

