-- ==== Sys2Proof/Machine/Render.lean ====
section
/-! DEFINITION. Scanline stepping, the four background renderers, the sprite engine and collision detection
(spec/49_vdp_render.md). `y` is a framebuffer row, `x` a column. -/
namespace Sys2Proof.Machine

/-- A number as a video address, modulo 2^14. -/
def toVAddr (n : Nat) : VAddr := BitVec.ofNat 14 n

/-- `bit(v, 7 - i)`: bit `i` of a pattern byte counted from the left (R212, R764). -/
def leftBit (v : Byte) (i : Nat) : Bool := v.getLsbD (7 - i)

/-- The name table byte of cell `n` (R760 to R763). -/
def Vdp.nameByte (v : Vdp) (n : Nat) : Byte := v.vr (v.tab.nametab + (toVAddr n &&& v.tab.namemask))

/-- The pattern generator byte at offset `o` (R700). -/
def Vdp.patternByte (v : Vdp) (o : Nat) : Byte := v.vr (v.tab.patgen + (toVAddr o &&& v.tab.patmask))

/-- The colour table byte at offset `o` (R699). -/
def Vdp.colourByte (v : Vdp) (o : Nat) : Byte := v.vr (v.tab.coltab + (toVAddr o &&& v.tab.colmask))

/-! ## The background renderers -/

/-- `Text(y)` at column `x` (R760). -/
def textPixel (v : Vdp) (y x : Nat) : Pixel :=
  if x < 8 ∨ 248 ≤ x then v.bg
  else
    let name := v.nameByte ((y / 8) * 40 + (x - 8) / 6)
    let p := v.patternByte (name.toNat * 8 + y % 8)
    if leftBit p ((x - 8) % 6) then v.fg else v.bg

/-- `Graphics1(y)` at column `x` (R761). -/
def graphics1Pixel (v : Vdp) (y x : Nat) : Pixel :=
  let name := v.nameByte ((y / 8) * 32 + x / 8)
  let p := v.patternByte (name.toNat * 8 + y % 8)
  let col := v.colourByte (name.toNat / 8)
  if leftBit p (x % 8) then hiPixel col else loPixel col

/-- The 13-bit offset of `Graphics2`: third of the screen, name, pixel row (R762). -/
def graphics2Offset (y : Nat) (name : Byte) : Nat := (y / 64) * 2048 + name.toNat * 8 + y % 8

/-- `Graphics2(y)` at column `x` (R762). -/
def graphics2Pixel (v : Vdp) (y x : Nat) : Pixel :=
  let name := v.nameByte ((y / 8) * 32 + x / 8)
  let p := v.patternByte (graphics2Offset y name)
  let col := v.colourByte (graphics2Offset y name)
  if leftBit p (x % 8) then hiPixel col else loPixel col

/-- `Multicolor(y)` at column `x` (R763). -/
def multicolorPixel (v : Vdp) (y x : Nat) : Pixel :=
  let name := v.nameByte ((y / 8) * 32 + x / 8)
  let p := v.patternByte (name.toNat * 8 + (y / 4) % 8)
  if x % 8 < 4 then hiPixel p else loPixel p

/-- The background pixel of the derived screen mode (R757). -/
def backgroundPixel (v : Vdp) (y x : Nat) : Pixel :=
  match v.mode with
  | .text => textPixel v y x
  | .graphics1 => graphics1Pixel v y x
  | .graphics2 => graphics2Pixel v y x
  | .multicolor => multicolorPixel v y x

/-- One framebuffer row from its pixels. -/
def pixelRow (f : Nat → Pixel) : List Pixel := (List.range 256).map f

/-! ## The sprite engine -/

/-- Byte `k` of attribute entry `i` (R66). -/
def Vdp.spriteAttr (v : Vdp) (i k : Nat) : Byte := v.vr (v.tab.satab + toVAddr (4 * i + k))

/-- Byte 0 of attribute entry `i`, as the scan reads it (R770). -/
def Vdp.spriteY (v : Vdp) (i : Nat) : Byte := v.vr (v.tab.satab + (toVAddr (4 * i) &&& v.tab.satmask))

/-- The framebuffer row of a sprite's first row, from its attribute `Y` (R772). -/
def spriteTop (yAttr : Byte) : Int :=
  (if 208 < yAttr.toNat then (yAttr.toNat : Int) - 256 else yAttr.toNat) + 1

/-- Whether a sprite of attribute `Y` covers row `y` (R770). -/
def spriteCovers (r : VdpRegs) (yAttr : Byte) (y : Nat) : Bool :=
  decide (spriteTop yAttr ≤ y) && decide ((y : Int) < spriteTop yAttr + r.spriteHeight)

/-- What the scan has found so far: the count `n`, the mask, the status byte (R770). -/
structure Scan where
  n : Nat
  mask : BitVec 32
  vstat : Byte
  deriving DecidableEq, Repr

/-- `VSTAT` with `5S` set and `5NUM = i` (R774). -/
def fifthSprite (vstat : Byte) (i : Nat) : Byte := (vstat &&& 0xA0) ||| 0x40 ||| (BitVec.ofNat 5 i).setWidth 8

/-- Counts sprite `i`, which covers the line (R770, R774). -/
def Scan.hit (maxSprites i : Nat) (c : Scan) : Scan where
  n := c.n + 1
  mask := if c.n + 1 ≤ maxSprites then c.mask ||| (1#32 <<< i) else c.mask
  vstat := if c.n + 1 = 5 ∧ c.vstat.getLsbD 6 = false then fifthSprite c.vstat i else c.vstat

/-- The loop of `ScanLine` over entries `i`, `i + 1`, …, at most `fuel` of them, ended by a terminator (R770, R773). -/
def scanFrom (maxSprites : Nat) (v : Vdp) (y : Nat) : Nat → Nat → Scan → Scan
  | 0, _, c => c
  | fuel + 1, i, c =>
    if v.spriteY i = 208 then c
    else scanFrom maxSprites v y fuel (i + 1) (if spriteCovers v.regs (v.spriteY i) y then c.hit maxSprites i else c)

/-- `ScanLine(y)`: the visibility mask, and the VDP with its status side effect (R770). -/
def scanLine (cfg : Config) (y : Nat) (v : Vdp) : BitVec 32 × Vdp :=
  let c := scanFrom cfg.maxSprites v y 32 0 ⟨0, 0, v.vstat⟩
  (c.mask, { v with vstat := c.vstat })

/-- `first` of `ScanLine`: the lowest index of the mask (R770). -/
def firstVisible (mask : BitVec 32) : Option Nat := (List.range 32).find? fun i => mask.getLsbD i

/-- The bit of pattern row `r`, column `k`, of sprite pattern `name` (R776). -/
def Vdp.spriteBit (v : Vdp) (name : Byte) (r k : Nat) : Bool :=
  if v.regs.size16 then
    let base := v.tab.sprgen + toVAddr ((name &&& 0xFC).toNat * 8)
    if k < 8 then leftBit (v.vr (base + toVAddr r)) k else leftBit (v.vr (base + toVAddr (16 + r))) (k - 8)
  else leftBit (v.vr (v.tab.sprgen + toVAddr (name.toNat * 8 + r))) k

/-- The column of a sprite's left edge: its `X`, less 32 under early clock (R775, R777). -/
def Vdp.spriteLeft (v : Vdp) (i : Nat) : Int :=
  (v.spriteAttr i 1).toNat - (if (v.spriteAttr i 3).getLsbD 7 then 32 else 0)

/-- The colour index of sprite `i` (R775). -/
def Vdp.spriteColour (v : Vdp) (i : Nat) : Pixel := loPixel (v.spriteAttr i 3)

/-- Whether sprite `i` has a set pattern bit at column `x` of row `y`, whatever its colour: pattern row `(y - top) >> MAG`,
pattern column `(x - x0) >> MAG` (R775 to R777). -/
def spriteLit (v : Vdp) (i y x : Nat) : Bool :=
  let dy := (y : Int) - spriteTop (v.spriteAttr i 0)
  let dx := (x : Int) - v.spriteLeft i
  decide (0 ≤ dy) && decide (dy < v.regs.spriteHeight) && decide (0 ≤ dx) && decide (dx < v.regs.spriteHeight)
    && v.spriteBit (v.spriteAttr i 2) (dy.toNat / 2 ^ v.regs.magShift) (dx.toNat / 2 ^ v.regs.magShift)

/-- Draws sprite `i` over a row, from column `x` on; a transparent sprite draws nothing (R775, R778). -/
def paintSprite (v : Vdp) (i y : Nat) : Nat → List Pixel → List Pixel
  | _, [] => []
  | x, p :: rest =>
    (if v.spriteColour i ≠ 0 ∧ spriteLit v i y x then v.spriteColour i else p) :: paintSprite v i y (x + 1) rest

/-- `CompositeLine`: the sprites of the mask with index below `k`, drawn highest index first (R775). -/
def compositeLine (v : Vdp) (y : Nat) (mask : BitVec 32) : Nat → List Pixel → List Pixel
  | 0, row => row
  | k + 1, row => compositeLine v y mask k (if mask.getLsbD k then paintSprite v k y 0 row else row)

/-- `RenderLine(y)` (R757, R758, R765). -/
def renderLine (cfg : Config) (y : Nat) (v : Vdp) : Vdp :=
  let scan := if v.mode = .text then (0, v) else scanLine cfg y v
  let row :=
    if v.regs.display then compositeLine v y scan.1 32 (pixelRow (backgroundPixel v y))
    else pixelRow fun _ => v.bg
  { scan.2 with fb := scan.2.fb.set y row }

/-! ## Collision -/

/-- `K` of R780: how many entries stand before the first terminator. -/
def spriteCount (v : Vdp) : Nat → Nat → Nat
  | 0, i => i
  | fuel + 1, i => if v.spriteY i = 208 then i else spriteCount v fuel (i + 1)

/-- The positions of the square of side `n` whose corner is (`left`, `top`), row by row. -/
def squareFrom (left top : Int) (n : Nat) : List (Int × Int) :=
  (List.range n).flatMap fun (r : Nat) => (List.range n).map fun (c : Nat) => (left + (c : Int), top + (r : Int))

/-- `Pix(i)` as a list of (column, row) (R781). -/
def spritePixels (v : Vdp) (i : Nat) : List (Nat × Nat) :=
  ((squareFrom (v.spriteLeft i) (spriteTop (v.spriteAttr i 0)) v.regs.spriteHeight).filter fun p =>
    decide (0 ≤ p.1) && decide (p.1 ≤ 255) && decide (0 ≤ p.2) && decide (p.2 ≤ 191)
      && spriteLit v i p.2.toNat p.1.toNat).map fun p => (p.1.toNat, p.2.toNat)

/-- Whether sprite `i`, whose pixels are `pix`, shares a position with one of the `n` entries from `j` on (R781). -/
def collidesWithLater (v : Vdp) (pix : List (Nat × Nat)) : Nat → Nat → Bool
  | 0, _ => false
  | n + 1, j => pix.any (fun p => spriteLit v j p.2 p.1) || collidesWithLater v pix n (j + 1)

/-- `CheckCollision()`: whether some pair `i < j < K` shares a position (R780). -/
def checkCollision (v : Vdp) : Bool :=
  let k := spriteCount v 32 0
  (List.range k).any fun i => collidesWithLater v (spritePixels v i) (k - (i + 1)) (i + 1)

/-! ## Stepping -/

/-- `VBlankBoundary()` on the VDP record (R754). -/
def Vdp.vblank (v : Vdp) : Vdp :=
  let c := if v.mode ≠ .text ∧ checkCollision v then v.vstat ||| 0x20 else v.vstat
  { v with vstat := c ||| 0x80 }

/-- The line after `L` (R752, R755). -/
def nextLine (cfg : Config) (l : Nat) : Nat := (l + 1) % cfg.totalLines

/-- `StepScanline()`, with `interruptRequested` as the value (R752 to R756). -/
def stepScanline (s : State) : Bool × State :=
  let l := s.vdp.curline
  let advance := fun (v : Vdp) => { v with curline := nextLine s.cfg l }
  if s.cfg.startLine ≤ l ∧ l < s.cfg.endLine then
    (false, s.onVdp fun v => advance (renderLine s.cfg (l - s.cfg.startLine) v))
  else if l = s.cfg.endLine then
    (!s.vdp.intLevel && s.vdp.vblank.intLevel, (s.onVdp fun v => advance v.vblank).emit (.frameReady s.vdp.fb))
  else (false, s.onVdp advance)

end Sys2Proof.Machine
end

