-- ==== Sys2Proof/Machine/Ops.lean ====
section
/-! DEFINITION. The shared operations: memory and ports through the platform's hooks (spec/20_memory.md R131 to R136), stacks,
requests and their routing (spec/60_exceptions.md R824, R826), taking an interrupt and returning from one (R831 to R836, R844 to
R846, R840, R848), the illegal-opcode policy (R821, R822), and the forms the instruction meanings are written in. Every operation
that returns a value returns it first, then the state. -/
namespace Sys2Proof.Machine

/-- The result of an instruction. -/
abbrev Result := Host.Outcome State Fault Refusal

/-- The state with its Z80 record changed. -/
def State.onZ (f : Z80 → Z80) (s : State) : State := { s with z := f s.z }

/-- The state with its 6502 record changed. -/
def State.onM (f : M6502 → M6502) (s : State) : State := { s with m := f s.m }

/-- `cyc(n)` of the Z80 variant (R829). -/
def cycZ (n : Nat) (s : State) : State := s.onZ fun z => { z with icount := z.icount - n }

/-- `cyc(n)` of the 6502 variant (R842). -/
def cycM (n : Nat) (s : State) : State := s.onM fun m => { m with cycLine := m.cycLine + n }

/-! ## Requests -/

/-- `Inject(req)` (R824). -/
def inject (req : Request) (s : State) : State :=
  match req with
  | .none => s
  | .nmi => { s with ic := { s.ic with nmi := true } }
  | .int v => { s with ic := { s.ic with int := some v } }
  | .quit => { s with ic := { s.ic with quit := true } }

/-- The request a VDP `interruptRequested` is routed to (R826). -/
def vdpRequest (cfg : Config) : Request :=
  match cfg.vdpIrqClass with
  | .nmi => .nmi
  | .int => .int cfg.vdpIrqVector

/-- Routing of a VDP entry point's result (R826). -/
def routeIrq (r : Bool × State) : State := if r.1 then inject (vdpRequest r.2.cfg) r.2 else r.2

/-- What one call from outside does (R10, R824, R826): a request is routed, a byte read is an output. -/
def runCall (c : CoreCall) (s : State) : State :=
  match c with
  | .inject req => inject req s
  | .writeControlPort b => routeIrq (writeControlPort b s)
  | .readControlPort => (readControlPort s).2.emit (.driverRead (readControlPort s).1)
  | .writeDataPort b => writeDataPort b s
  | .readDataPort => (readDataPort s).2.emit (.driverRead (readDataPort s).1)

/-- Calls from outside, in order. -/
def runCalls : List CoreCall → State → State
  | [], s => s
  | c :: rest, s => runCalls rest (runCall c s)

/-! ## Memory and ports -/

/-- The byte at address `a` of the platform's plain RAM. -/
def State.ramByte (s : State) (a : Word) : Byte := Memory.read s.mem a.toNat

/-- Where the platform routes an address or a port, `none` being outside the core (log 4). -/
def routeOf (routes : List Route) (a : Word) : Option Target :=
  (routes.find? fun r => a &&& r.mask == r.value).map Route.target

/-- How the platform answers the hook call at hand: the next scripted reply, or a free one (R131, R133, U12, log 5). -/
def takeReply (s : State) : HookReply × State :=
  match s.hookIn with
  | r :: rest => (r, { s with hookIn := rest })
  | [] => (Config.hookReply s.tick, { s with tick := s.tick + 1 })

/-- A read answered outside the core: what the platform calls of the core, then its answer (R131, R133, U12). -/
def externalRead (mk : Byte → Event) (s : State) : Byte × State :=
  let r := takeReply s
  (r.1.answer, (runCalls r.1.calls r.2).emit (mk r.1.answer))

/-- A write taken outside the core: what the platform calls of the core (R131, R133, U12). -/
def externalWrite (s : State) : State :=
  let r := takeReply s
  runCalls r.1.calls r.2

/-- `MemRead(a, 1)` (R131). -/
def memRead (a : Word) (s : State) : Byte × State :=
  match routeOf s.cfg.memMap a with
  | some .ram => (s.ramByte a, s)
  | some .vdpControl => readControlPort s
  | some .vdpData => readDataPort s
  | _ => externalRead (.readByte a) s

/-- What the platform does with a byte written at address `a` (R131, R133). -/
def takeByte (a : Word) (v : Byte) (s : State) : State :=
  match routeOf s.cfg.memMap a with
  | some .ram => { s with mem := Memory.write s.mem a.toNat v }
  | some .vdpControl => routeIrq (writeControlPort v s)
  | some .vdpData => writeDataPort v s
  | _ => externalWrite s

/-- `MemWrite(a, 1, v)`: a recorded call of `WriteByte` (R131). -/
def memWrite (a : Word) (v : Byte) (s : State) : State := takeByte a v (s.emit (.writeByte a v))

/-- `MemRead(a, 2)`: low byte first (R135). -/
def memRead16 (a : Word) (s : State) : Word × State :=
  let lo := memRead a s
  let hi := memRead (a + 1) lo.2
  (mk16 hi.1 lo.1, hi.2)

/-- `MemWrite(a, 2, v)`: low byte first (R135). -/
def memWrite16 (a : Word) (v : Word) (s : State) : State := memWrite (a + 1) (hi8 v) (memWrite a (lo8 v) s)

/-- `PortIn(p)` (R133). -/
def portIn (p : Word) (s : State) : Byte × State :=
  match routeOf s.cfg.portMap p with
  | some .vdpControl => readControlPort s
  | some .vdpData => readDataPort s
  | _ => externalRead (.inPort p) s

/-- What the platform does with a byte written to port `p` (R133). -/
def takePort (p : Word) (v : Byte) (s : State) : State :=
  match routeOf s.cfg.portMap p with
  | some .vdpControl => routeIrq (writeControlPort v s)
  | some .vdpData => writeDataPort v s
  | _ => externalWrite s

/-- `PortOut(p, v)`: a recorded call of `OutPort` (R133). -/
def portOut (p : Word) (v : Byte) (s : State) : State := takePort p v (s.emit (.outPort p v))

/-! ## Stacks (R136) -/

/-- The Z80's push of one byte: `SP <- SP - 1; MemWrite(SP, 1, v)` (R136). -/
def pushZ8 (v : Byte) (s : State) : State :=
  let s1 := s.onZ fun z => { z with sp := z.sp - 1 }
  memWrite s1.z.sp v s1

/-- The Z80's push of a word: high byte first (R136). -/
def pushZ (v : Word) (s : State) : State := pushZ8 (lo8 v) (pushZ8 (hi8 v) s)

/-- The Z80's read of one byte from the stack: `MemRead(SP, 1); SP <- SP + 1` (R136). -/
def popZ8 (s : State) : Byte × State :=
  let r := memRead s.z.sp s
  (r.1, r.2.onZ fun z => { z with sp := z.sp + 1 })

/-- The Z80's pop of a word: low byte first (R136). -/
def popZ (s : State) : Word × State :=
  let lo := popZ8 s
  let hi := popZ8 lo.2
  (mk16 hi.1 lo.1, hi.2)

/-- The 6502's stack address `0x0100 + S` (R48). -/
def stackAddr (s : Byte) : Word := mk16 0x01 s

/-- The 6502's push of a byte (R136). -/
def pushM (v : Byte) (s : State) : State :=
  (memWrite (stackAddr s.m.s) v s).onM fun m => { m with s := m.s - 1 }

/-- The 6502's push of a word: high byte first (R136). -/
def pushM16 (v : Word) (s : State) : State := pushM (lo8 v) (pushM (hi8 v) s)

/-- The 6502's pull of a byte (R136). -/
def pullM (s : State) : Byte × State :=
  let s1 := s.onM fun m => { m with s := m.s + 1 }
  memRead (stackAddr s1.m.s) s1

/-- The 6502's pull of a word: low byte first (R628, R646). -/
def pullM16 (s : State) : Word × State :=
  let lo := pullM s
  let hi := pullM lo.2
  (mk16 hi.1 lo.1, hi.2)

/-! ## Taking an interrupt -/

/-- `R[6:0] <- (R[6:0] + n) mod 128`; bit 7 stays (R40). -/
def advanceR (n r : Byte) : Byte := (r &&& 0x80) ||| ((r + n) &&& 0x7F)

/-- What both Z80 entries begin with: a halt ends with `PC` past its opcode, `R` advances, `IFF1` is cleared, and `IFF2` is kept
for a non-maskable entry, cleared for a maskable one (R832, R833, R837). -/
def entryRegs (keepIff2 : Bool) (z : Z80) : Z80 :=
  { z with
    pc := if z.halted then z.pc + 1 else z.pc
    halted := false
    r := advanceR 1 z.r
    iff1 := false
    iff2 := keepIff2 && z.iff2 }

/-- The shared part of the two Z80 entries: the registers, then the push of `PC` (R832, R833). -/
def entryZ (keepIff2 : Bool) (s : State) : State :=
  let s1 := s.onZ (entryRegs keepIff2)
  pushZ s1.z.pc s1

/-- Sends the Z80 to address `a`. -/
def jumpZ (a : Word) (s : State) : State := s.onZ fun z => { z with pc := a }

/-- `NmiEntry()` (R832). -/
def nmiEntry (s : State) : State := cycZ s.cfg.cyc.z80Nmi (jumpZ 0x0066 (entryZ true s))

/-- What a sample point answers: go on, stop (R857), or no behaviour defined (R834, log 9). -/
inductive Accepted where
  | ok (s : State)
  | stop (s : State)
  | refused
  deriving DecidableEq, Repr

/-- `v & 0xC7 = 0xC7`: the vector byte is a restart opcode (R834). -/
def isRst (v : Byte) : Bool := v &&& 0xC7 == 0xC7

/-- `IntEntry(v)` (R833 to R836). -/
def intEntry (v : Byte) (s : State) : Accepted :=
  match s.z.im with
  | .im0 => if isRst v then .ok (cycZ s.cfg.cyc.z80IntIm0 (jumpZ (zext8 (v &&& 0x38)) (entryZ false s))) else .refused
  | .im1 => .ok (cycZ s.cfg.cyc.z80IntIm1 (jumpZ 0x0038 (entryZ false s)))
  | .im2 =>
    let s1 := entryZ false s
    let r := memRead16 (mk16 s1.z.i v) s1
    .ok (cycZ s.cfg.cyc.z80IntIm2 (jumpZ r.1 r.2))

/-- `Accept()` of the Z80 variant (R831, R849). -/
def acceptZ (s : State) : Accepted :=
  if s.ic.quit then .stop { s with ic := { s.ic with quit := false } }
  else if s.ic.nmi then .ok (nmiEntry { s with ic := { s.ic with nmi := false } })
  else
    match s.ic.int with
    | some v => if s.z.iff1 then intEntry v { s with ic := { s.ic with int := none } } else .ok s
    | none => .ok s

/-- Pushes `PC` and `P`, sets `I`, and loads `PC` from `vec`: the common part of interrupt entry and `BRK` (R645, R845). -/
def vectorM (ret : Word) (b : Bool) (vec : Word) (s : State) : State :=
  let s1 := pushM16 ret s
  let s2 := (pushM (s1.m.pushedP b) s1).onM fun m => { m with fi := true }
  let r := memRead16 vec s2
  r.2.onM fun m => { m with pc := r.1 }

/-- `Entry6502(vec)` (R845, R846). -/
def entry6502 (vec : Word) (s : State) : State := cycM s.cfg.cyc.m6502Int (vectorM s.m.pc false vec s)

/-- `Accept()` of the 6502 variant (R844, R849). -/
def acceptM (s : State) : Accepted :=
  if s.ic.quit then .stop { s with ic := { s.ic with quit := false } }
  else if s.ic.nmi then .ok (entry6502 0xFFFA { s with ic := { s.ic with nmi := false } })
  else
    match s.ic.int with
    | some _ => if s.m.fi then .ok s else .ok (entry6502 0xFFFE { s with ic := { s.ic with int := none } })
    | none => .ok s

/-- `Accept()` of the configured variant. -/
def accept (s : State) : Accepted :=
  match s.cfg.cpu with
  | .z80 => acceptZ s
  | .m6502 => acceptM s

/-! ## Returning from an interrupt -/

/-- `pc <- pop()` (R410). -/
def popPC (s : State) : State :=
  let r := popZ s
  jumpZ r.1 r.2

/-- The return of `RETI`, `RETN` and its copies: `pc <- pop(); IFF1 <- IFF2` (R412, R413, R840). -/
def returnZ (s : State) : State := (popPC s).onZ fun z => { z with iff1 := z.iff2 }

/-- The return of `RTI`: `P`, then `PC` (R646, R848). -/
def returnM (s : State) : State :=
  let p := pullM s
  let r := pullM16 (p.2.onM (M6502.loadP p.1))
  r.2.onM fun m => { m with pc := r.1 }

/-! ## The illegal-opcode policy -/

/-- `if CFG.trap_bad_ops then IllegalOpHook(info)` (R821, R822). -/
def illegalHook (addr : Word) (bytes : List Byte) (s : State) : State :=
  if s.cfg.trapBadOps then s.emit (.illegalOp addr bytes) else s

/-- The policy for the encoding of `i` on the Z80: the hook, then a no-operation. `PC` already stands past the bytes (R821). -/
def illegalZ (i : Instr) (s : State) : State := illegalHook (s.z.pc - BitVec.ofNat 16 i.size) (encode i) s

/-- An undocumented encoding: its meaning when `CFG.z80_undoc` is true, else the illegal-opcode policy (R184, R500). -/
def undocumented (i : Instr) (meaning : State → Result) (s : State) : Result :=
  if s.cfg.z80Undoc then meaning s else .next (illegalZ i s)

/-! ## Forms of the Z80 meanings -/

/-- A meaning that changes the Z80 record only. -/
def regsZ (f : Z80 → Z80) (s : State) : Result := .next (s.onZ f)

/-- Reads the byte at `a`, then changes the Z80 record with it. -/
def loadZ (a : Word) (f : Byte → Z80 → Z80) (s : State) : Result :=
  let r := memRead a s
  .next (r.2.onZ (f r.1))

/-- Reads the word at `a`, then changes the Z80 record with it. -/
def loadZ16 (a : Word) (f : Word → Z80 → Z80) (s : State) : Result :=
  let r := memRead16 a s
  .next (r.2.onZ (f r.1))

/-- Reads the byte at `a`, writes back what `op` gives for it and the flag byte, then takes the new flags (R153). -/
def modifyZ (a : Word) (op : Byte → Byte → Byte × Byte) (s : State) : State :=
  let r := memRead a s
  let w := op r.1 r.2.z.f
  (memWrite a w.1 r.2).onZ fun z => { z with f := w.2 }

/-- An accumulator operation with the operand `v` (R295). -/
def Z80.alu (op : AluOp) (v : Byte) (z : Z80) : Z80 :=
  { z with a := (op.apply z.a z.f v).1, f := (op.apply z.a z.f v).2 }

/-- Changes the register of code `r` and the flags by `op` (R294, R350). -/
def Z80.update8 (r : Reg8) (op : Byte → Byte → Byte × Byte) (z : Z80) : Z80 :=
  { z.set8 r (op (z.get8 r) z.f).1 with f := (op (z.get8 r) z.f).2 }

/-! ## The 6502's addressing modes (R542 to R555) -/

/-- The addressing modes that name a memory byte, with their operand bytes (R545 to R553). -/
inductive AddrMode where
  | zp (b : Byte)
  | zpx (b : Byte)
  | zpy (b : Byte)
  | abs (addr : Word)
  | abx (addr : Word)
  | aby (addr : Word)
  | izx (b : Byte)
  | izy (b : Byte)
  deriving DecidableEq, Repr

/-- The pointer in page 0 at `b` and `(b + 1) mod 256` (R552, R553). -/
def zeroPagePointer (b : Byte) (s : State) : Word × State :=
  let lo := memRead (zext8 b) s
  let hi := memRead (zext8 (b + 1)) lo.2
  (mk16 hi.1 lo.1, hi.2)

/-- The base and the effective address of a mode: equal where the mode has no index that can cross a page (R545 to R553). -/
def addressOf (mode : AddrMode) (s : State) : (Word × Word) × State :=
  match mode with
  | .zp b => ((zext8 b, zext8 b), s)
  | .zpx b => ((zext8 (b + s.m.x), zext8 (b + s.m.x)), s)
  | .zpy b => ((zext8 (b + s.m.y), zext8 (b + s.m.y)), s)
  | .abs a => ((a, a), s)
  | .abx a => ((a, a + zext8 s.m.x), s)
  | .aby a => ((a, a + zext8 s.m.y), s)
  | .izx b =>
    let r := zeroPagePointer (b + s.m.x) s
    ((r.1, r.1), r.2)
  | .izy b =>
    let r := zeroPagePointer b s
    ((r.1, r.1 + zext8 s.m.y), r.2)

/-- `crossed = (hi(ea) != hi(base))` (R555). -/
def pageCrossed (base ea : Word) : Bool := hi8 ea != hi8 base

/-- A read-class instruction: the page-crossing penalty, the read, then the change of the 6502 record (R540, R555). -/
def readM (mode : AddrMode) (f : Byte → M6502 → M6502) (s : State) : State :=
  let ad := addressOf mode s
  let s1 := if pageCrossed ad.1.1 ad.1.2 then cycM s.cfg.cyc.pageCross ad.2 else ad.2
  let r := memRead ad.1.2 s1
  r.2.onM (f r.1)

/-- A store: no page-crossing addition (R555, R559 to R561). -/
def storeM (mode : AddrMode) (v : M6502 → Byte) (s : State) : State :=
  let ad := addressOf mode s
  memWrite ad.1.2 (v ad.2.m) ad.2

/-- A read-modify-write: one read, then one write (R624). -/
def modifyM (mode : AddrMode) (op : Byte → M6502 → Byte × M6502) (s : State) : State :=
  let ad := addressOf mode s
  let r := memRead ad.1.2 ad.2
  let w := op r.1 r.2.m
  (memWrite ad.1.2 w.1 r.2).onM fun _ => w.2

/-- A meaning that changes the 6502 record only. -/
def regsM (f : M6502 → M6502) (s : State) : Result := .next (s.onM f)

/-- A branch: `PC` and the penalties of the taken path (R554, R629). -/
def branchM (cond : Bool) (b : Byte) (s : State) : State :=
  if cond then
    let target := s.m.pc + sext8 b
    let n := s.cfg.cyc.branchTaken + if pageCrossed s.m.pc target then s.cfg.cyc.branchPage else 0
    (cycM n s).onM fun m => { m with pc := target }
  else s

end Sys2Proof.Machine
end

