-- ==== Sys2Proof/Machine/Driver.lean ====
section
/-! DEFINITION. The driver: its iteration (spec/60_exceptions.md R827), what it may do between iterations (R10, R824), `Reset`
(spec/70_reset_and_hazards.md R900), `Save` and `Restore` (R912). -/
namespace Sys2Proof.Machine

/-- `Reset()`: the line-timing constants are the region's without being written (`Config.lineConstants`, a function of the constant
configuration); then the VDP, the interrupt controller, and last the CPU, whose 6502 variant reads its vector through the memory
hook. Memory, the configuration, the inputs and the outputs stay (R900 to R905, log 26). -/
def resetMachine (s : State) : State :=
  let s1 := { s with vdp := Vdp.reset s.cfg, ic := Pending.reset }.emit (.backdrop (Vdp.reset s.cfg).bg)
  match s.cfg.cpu with
  | .z80 => { s1 with z := Z80.reset }
  | .m6502 =>
    let r := memRead16 0xFFFC s1
    { r.2 with m := M6502.reset r.1 }

/-- The machine right after reset with a given configuration (R900). -/
def State.resetWith (cfg : Config) : State := resetMachine (State.powerOn cfg)

/-- `Save()` (R70, R912). -/
def save (s : State) : Blob := ⟨s.z, s.m, s.ic, s.vdp⟩

/-- `Restore(blob)` (R70, R912). -/
def restore (blob : Blob) (s : State) : State := { s with z := blob.z, m := blob.m, ic := blob.ic, vdp := blob.vdp }

/-- One action of the driver (R10). `writeRegister`'s `true` is routed (R826), a value an entry point returns is an output. -/
def runAction (act : DriverAction) (s : State) : State :=
  match act with
  | .reset => resetMachine s
  | .save => s.emit (.saved (save s))
  | .restore blob => restore blob s
  | .writeRegister index value => routeIrq (writeRegister index value s)
  | .stepScanline => (stepScanline s).2.emit (.stepped (stepScanline s).1)
  | .call c => runCall c s

/-- The driver's actions in order. -/
def runActions : List DriverAction → State → State
  | [], s => s
  | act :: rest, s => runActions rest (runAction act s)

/-- The first call of a turn: of an iteration the half that `CFG.order` puts first (R827), of an `Execute` out of turn its entry. -/
def firstHalf (cfg : Config) (inTurn : Bool) : Phase :=
  match cfg.order, inTurn with
  | .vdpThenCpu, true => .scanline
  | _, _ => .execEntry

/-- A turn of the driver after its actions (R827, R927). -/
def startTurn (budget : Nat) (inTurn : Bool) (s : State) : State :=
  { s with phase := firstHalf s.cfg inTurn, quota := budget, inTurn := inTurn }

/-- The start of a turn: the next scripted line, or an iteration with the nominal budget and no action (R827, log 11). -/
def startIteration (s : State) : State :=
  match s.lines with
  | [] => startTurn s.cfg.lineCycles true s
  | line :: rest => startTurn line.budget line.inTurn (runActions line.actions { s with lines := rest })

/-- What the iteration does after `StepScanline` (R827). -/
def afterScanline (cfg : Config) : Phase :=
  match cfg.order with
  | .cpuThenVdp => .iterStart
  | .vdpThenCpu => .execEntry

/-- The VDP's half of an iteration: one scanline, its result routed (R826, R827). -/
def scanlineHalf (s : State) : State := { routeIrq (stepScanline s) with phase := afterScanline s.cfg }

/-- After a stop the driver has left its loop; it goes on when more lines are scripted (R857, log 12). -/
def whileStopped (s : State) : State := if s.lines = [] then s else startIteration s

end Sys2Proof.Machine
end

