-- ==== Sys2Proof/Machine/M6502A.lean ====
section
/-! DEFINITION. The 6502's loads, stores, transfers, stack, logic, arithmetic, increments (spec/46_m6502_a.md). -/
namespace Sys2Proof.Machine

/-- `LDA` with the operand `v`, and the load of `PLA` (R556, R570). -/
def M6502.loadA (v : Byte) (m : M6502) : M6502 := { m.setNZ v with a := v }

/-- `LDX` with the operand `v` (R557). -/
def M6502.loadX (v : Byte) (m : M6502) : M6502 := { m.setNZ v with x := v }

/-- `LDY` with the operand `v` (R558). -/
def M6502.loadY (v : Byte) (m : M6502) : M6502 := { m.setNZ v with y := v }

/-- `AND` with the operand `v` (R572). -/
def M6502.and (v : Byte) (m : M6502) : M6502 := m.loadA (m.a &&& v)

/-- `EOR` with the operand `v` (R573). -/
def M6502.eor (v : Byte) (m : M6502) : M6502 := m.loadA (m.a ^^^ v)

/-- `ORA` with the operand `v` (R574). -/
def M6502.ora (v : Byte) (m : M6502) : M6502 := m.loadA (m.a ||| v)

/-- `CMP` with the operand `v` (R580). -/
def M6502.cmp (v : Byte) (m : M6502) : M6502 := m.compare m.a v

/-- `CPX` with the operand `v` (R581). -/
def M6502.cpx (v : Byte) (m : M6502) : M6502 := m.compare m.x v

/-- `CPY` with the operand `v` (R582). -/
def M6502.cpy (v : Byte) (m : M6502) : M6502 := m.compare m.y v

/-- `INC` of the byte `v` (R583). -/
def M6502.inc (v : Byte) (m : M6502) : Byte × M6502 := (v + 1, m.setNZ (v + 1))

/-- `DEC` of the byte `v` (R586). -/
def M6502.dec (v : Byte) (m : M6502) : Byte × M6502 := (v - 1, m.setNZ (v - 1))

/-- `ORA (zp,X)` (R574). -/
def execMOraIzx (b : Byte) (s : State) : Result := .next (readM (.izx b) M6502.ora s)

/-- `ORA zp` (R574). -/
def execMOraZp (b : Byte) (s : State) : Result := .next (readM (.zp b) M6502.ora s)

/-- `PHP` (R569). -/
def execMPhp (s : State) : Result := .next (pushM (s.m.pushedP true) s)

/-- `ORA #b` (R574). -/
def execMOraImm (b : Byte) (s : State) : Result := regsM (M6502.ora b) s

/-- `ORA abs` (R574). -/
def execMOraAbs (addr : Word) (s : State) : Result := .next (readM (.abs addr) M6502.ora s)

/-- `ORA (zp),Y` (R574). -/
def execMOraIzy (b : Byte) (s : State) : Result := .next (readM (.izy b) M6502.ora s)

/-- `ORA zp,X` (R574). -/
def execMOraZpX (b : Byte) (s : State) : Result := .next (readM (.zpx b) M6502.ora s)

/-- `ORA abs,Y` (R574). -/
def execMOraAbsY (addr : Word) (s : State) : Result := .next (readM (.aby addr) M6502.ora s)

/-- `ORA abs,X` (R574). -/
def execMOraAbsX (addr : Word) (s : State) : Result := .next (readM (.abx addr) M6502.ora s)

/-- `AND (zp,X)` (R572). -/
def execMAndIzx (b : Byte) (s : State) : Result := .next (readM (.izx b) M6502.and s)

/-- `BIT zp` (R575). -/
def execMBitZp (b : Byte) (s : State) : Result := .next (readM (.zp b) M6502.bitTest s)

/-- `AND zp` (R572). -/
def execMAndZp (b : Byte) (s : State) : Result := .next (readM (.zp b) M6502.and s)

/-- `PLP` (R571). -/
def execMPlp (s : State) : Result :=
  let v := pullM s
  .next (v.2.onM (M6502.loadP v.1))

/-- `AND #b` (R572). -/
def execMAndImm (b : Byte) (s : State) : Result := regsM (M6502.and b) s

/-- `BIT abs` (R575). -/
def execMBitAbs (addr : Word) (s : State) : Result := .next (readM (.abs addr) M6502.bitTest s)

/-- `AND abs` (R572). -/
def execMAndAbs (addr : Word) (s : State) : Result := .next (readM (.abs addr) M6502.and s)

/-- `AND (zp),Y` (R572). -/
def execMAndIzy (b : Byte) (s : State) : Result := .next (readM (.izy b) M6502.and s)

/-- `AND zp,X` (R572). -/
def execMAndZpX (b : Byte) (s : State) : Result := .next (readM (.zpx b) M6502.and s)

/-- `AND abs,Y` (R572). -/
def execMAndAbsY (addr : Word) (s : State) : Result := .next (readM (.aby addr) M6502.and s)

/-- `AND abs,X` (R572). -/
def execMAndAbsX (addr : Word) (s : State) : Result := .next (readM (.abx addr) M6502.and s)

/-- `EOR (zp,X)` (R573). -/
def execMEorIzx (b : Byte) (s : State) : Result := .next (readM (.izx b) M6502.eor s)

/-- `EOR zp` (R573). -/
def execMEorZp (b : Byte) (s : State) : Result := .next (readM (.zp b) M6502.eor s)

/-- `PHA` (R568). -/
def execMPha (s : State) : Result := .next (pushM s.m.a s)

/-- `EOR #b` (R573). -/
def execMEorImm (b : Byte) (s : State) : Result := regsM (M6502.eor b) s

/-- `EOR abs` (R573). -/
def execMEorAbs (addr : Word) (s : State) : Result := .next (readM (.abs addr) M6502.eor s)

/-- `EOR (zp),Y` (R573). -/
def execMEorIzy (b : Byte) (s : State) : Result := .next (readM (.izy b) M6502.eor s)

/-- `EOR zp,X` (R573). -/
def execMEorZpX (b : Byte) (s : State) : Result := .next (readM (.zpx b) M6502.eor s)

/-- `EOR abs,Y` (R573). -/
def execMEorAbsY (addr : Word) (s : State) : Result := .next (readM (.aby addr) M6502.eor s)

/-- `EOR abs,X` (R573). -/
def execMEorAbsX (addr : Word) (s : State) : Result := .next (readM (.abx addr) M6502.eor s)

/-- `ADC (zp,X)` (R576, R577). -/
def execMAdcIzx (b : Byte) (s : State) : Result := .next (readM (.izx b) M6502.adc s)

/-- `ADC zp` (R576, R577). -/
def execMAdcZp (b : Byte) (s : State) : Result := .next (readM (.zp b) M6502.adc s)

/-- `PLA` (R570). -/
def execMPla (s : State) : Result :=
  let v := pullM s
  .next (v.2.onM (M6502.loadA v.1))

/-- `ADC #b` (R576, R577). -/
def execMAdcImm (b : Byte) (s : State) : Result := regsM (M6502.adc b) s

/-- `ADC abs` (R576, R577). -/
def execMAdcAbs (addr : Word) (s : State) : Result := .next (readM (.abs addr) M6502.adc s)

/-- `ADC (zp),Y` (R576, R577). -/
def execMAdcIzy (b : Byte) (s : State) : Result := .next (readM (.izy b) M6502.adc s)

/-- `ADC zp,X` (R576, R577). -/
def execMAdcZpX (b : Byte) (s : State) : Result := .next (readM (.zpx b) M6502.adc s)

/-- `ADC abs,Y` (R576, R577). -/
def execMAdcAbsY (addr : Word) (s : State) : Result := .next (readM (.aby addr) M6502.adc s)

/-- `ADC abs,X` (R576, R577). -/
def execMAdcAbsX (addr : Word) (s : State) : Result := .next (readM (.abx addr) M6502.adc s)

/-- `STA (zp,X)` (R559). -/
def execMStaIzx (b : Byte) (s : State) : Result := .next (storeM (.izx b) M6502.a s)

/-- `STY zp` (R561). -/
def execMStyZp (b : Byte) (s : State) : Result := .next (storeM (.zp b) M6502.y s)

/-- `STA zp` (R559). -/
def execMStaZp (b : Byte) (s : State) : Result := .next (storeM (.zp b) M6502.a s)

/-- `STX zp` (R560). -/
def execMStxZp (b : Byte) (s : State) : Result := .next (storeM (.zp b) M6502.x s)

/-- `DEY` (R588). -/
def execMDey (s : State) : Result := regsM (fun m => { m.setNZ (m.y - 1) with y := m.y - 1 }) s

/-- `TXA` (R564). -/
def execMTxa (s : State) : Result := regsM (fun m => { m.setNZ m.x with a := m.x }) s

/-- `STY abs` (R561). -/
def execMStyAbs (addr : Word) (s : State) : Result := .next (storeM (.abs addr) M6502.y s)

/-- `STA abs` (R559). -/
def execMStaAbs (addr : Word) (s : State) : Result := .next (storeM (.abs addr) M6502.a s)

/-- `STX abs` (R560). -/
def execMStxAbs (addr : Word) (s : State) : Result := .next (storeM (.abs addr) M6502.x s)

/-- `STA (zp),Y` (R559). -/
def execMStaIzy (b : Byte) (s : State) : Result := .next (storeM (.izy b) M6502.a s)

/-- `STY zp,X` (R561). -/
def execMStyZpX (b : Byte) (s : State) : Result := .next (storeM (.zpx b) M6502.y s)

/-- `STA zp,X` (R559). -/
def execMStaZpX (b : Byte) (s : State) : Result := .next (storeM (.zpx b) M6502.a s)

/-- `STX zp,Y` (R560). -/
def execMStxZpY (b : Byte) (s : State) : Result := .next (storeM (.zpy b) M6502.x s)

/-- `TYA` (R565). -/
def execMTya (s : State) : Result := regsM (fun m => { m.setNZ m.y with a := m.y }) s

/-- `STA abs,Y` (R559). -/
def execMStaAbsY (addr : Word) (s : State) : Result := .next (storeM (.aby addr) M6502.a s)

/-- `TXS` (R567). -/
def execMTxs (s : State) : Result := regsM (fun m => { m with s := m.x }) s

/-- `STA abs,X` (R559). -/
def execMStaAbsX (addr : Word) (s : State) : Result := .next (storeM (.abx addr) M6502.a s)

/-- `LDY #b` (R558). -/
def execMLdyImm (b : Byte) (s : State) : Result := regsM (M6502.loadY b) s

/-- `LDA (zp,X)` (R556). -/
def execMLdaIzx (b : Byte) (s : State) : Result := .next (readM (.izx b) M6502.loadA s)

/-- `LDX #b` (R557). -/
def execMLdxImm (b : Byte) (s : State) : Result := regsM (M6502.loadX b) s

/-- `LDY zp` (R558). -/
def execMLdyZp (b : Byte) (s : State) : Result := .next (readM (.zp b) M6502.loadY s)

/-- `LDA zp` (R556). -/
def execMLdaZp (b : Byte) (s : State) : Result := .next (readM (.zp b) M6502.loadA s)

/-- `LDX zp` (R557). -/
def execMLdxZp (b : Byte) (s : State) : Result := .next (readM (.zp b) M6502.loadX s)

/-- `TAY` (R563). -/
def execMTay (s : State) : Result := regsM (fun m => { m.setNZ m.a with y := m.a }) s

/-- `LDA #b` (R556). -/
def execMLdaImm (b : Byte) (s : State) : Result := regsM (M6502.loadA b) s

/-- `TAX` (R562). -/
def execMTax (s : State) : Result := regsM (fun m => { m.setNZ m.a with x := m.a }) s

/-- `LDY abs` (R558). -/
def execMLdyAbs (addr : Word) (s : State) : Result := .next (readM (.abs addr) M6502.loadY s)

/-- `LDA abs` (R556). -/
def execMLdaAbs (addr : Word) (s : State) : Result := .next (readM (.abs addr) M6502.loadA s)

/-- `LDX abs` (R557). -/
def execMLdxAbs (addr : Word) (s : State) : Result := .next (readM (.abs addr) M6502.loadX s)

/-- `LDA (zp),Y` (R556). -/
def execMLdaIzy (b : Byte) (s : State) : Result := .next (readM (.izy b) M6502.loadA s)

/-- `LDY zp,X` (R558). -/
def execMLdyZpX (b : Byte) (s : State) : Result := .next (readM (.zpx b) M6502.loadY s)

/-- `LDA zp,X` (R556). -/
def execMLdaZpX (b : Byte) (s : State) : Result := .next (readM (.zpx b) M6502.loadA s)

/-- `LDX zp,Y` (R557). -/
def execMLdxZpY (b : Byte) (s : State) : Result := .next (readM (.zpy b) M6502.loadX s)

/-- `LDA abs,Y` (R556). -/
def execMLdaAbsY (addr : Word) (s : State) : Result := .next (readM (.aby addr) M6502.loadA s)

/-- `TSX` (R566). -/
def execMTsx (s : State) : Result := regsM (fun m => { m.setNZ m.s with x := m.s }) s

/-- `LDY abs,X` (R558). -/
def execMLdyAbsX (addr : Word) (s : State) : Result := .next (readM (.abx addr) M6502.loadY s)

/-- `LDA abs,X` (R556). -/
def execMLdaAbsX (addr : Word) (s : State) : Result := .next (readM (.abx addr) M6502.loadA s)

/-- `LDX abs,Y` (R557). -/
def execMLdxAbsY (addr : Word) (s : State) : Result := .next (readM (.aby addr) M6502.loadX s)

/-- `CPY #b` (R582). -/
def execMCpyImm (b : Byte) (s : State) : Result := regsM (M6502.cpy b) s

/-- `CMP (zp,X)` (R580). -/
def execMCmpIzx (b : Byte) (s : State) : Result := .next (readM (.izx b) M6502.cmp s)

/-- `CPY zp` (R582). -/
def execMCpyZp (b : Byte) (s : State) : Result := .next (readM (.zp b) M6502.cpy s)

/-- `CMP zp` (R580). -/
def execMCmpZp (b : Byte) (s : State) : Result := .next (readM (.zp b) M6502.cmp s)

/-- `DEC zp` (R586). -/
def execMDecZp (b : Byte) (s : State) : Result := .next (modifyM (.zp b) M6502.dec s)

/-- `INY` (R585). -/
def execMIny (s : State) : Result := regsM (fun m => { m.setNZ (m.y + 1) with y := m.y + 1 }) s

/-- `CMP #b` (R580). -/
def execMCmpImm (b : Byte) (s : State) : Result := regsM (M6502.cmp b) s

/-- `DEX` (R587). -/
def execMDex (s : State) : Result := regsM (fun m => { m.setNZ (m.x - 1) with x := m.x - 1 }) s

/-- `CPY abs` (R582). -/
def execMCpyAbs (addr : Word) (s : State) : Result := .next (readM (.abs addr) M6502.cpy s)

/-- `CMP abs` (R580). -/
def execMCmpAbs (addr : Word) (s : State) : Result := .next (readM (.abs addr) M6502.cmp s)

/-- `DEC abs` (R586). -/
def execMDecAbs (addr : Word) (s : State) : Result := .next (modifyM (.abs addr) M6502.dec s)

/-- `CMP (zp),Y` (R580). -/
def execMCmpIzy (b : Byte) (s : State) : Result := .next (readM (.izy b) M6502.cmp s)

/-- `CMP zp,X` (R580). -/
def execMCmpZpX (b : Byte) (s : State) : Result := .next (readM (.zpx b) M6502.cmp s)

/-- `DEC zp,X` (R586). -/
def execMDecZpX (b : Byte) (s : State) : Result := .next (modifyM (.zpx b) M6502.dec s)

/-- `CMP abs,Y` (R580). -/
def execMCmpAbsY (addr : Word) (s : State) : Result := .next (readM (.aby addr) M6502.cmp s)

/-- `CMP abs,X` (R580). -/
def execMCmpAbsX (addr : Word) (s : State) : Result := .next (readM (.abx addr) M6502.cmp s)

/-- `DEC abs,X` (R586). -/
def execMDecAbsX (addr : Word) (s : State) : Result := .next (modifyM (.abx addr) M6502.dec s)

/-- `CPX #b` (R581). -/
def execMCpxImm (b : Byte) (s : State) : Result := regsM (M6502.cpx b) s

/-- `SBC (zp,X)` (R578, R579). -/
def execMSbcIzx (b : Byte) (s : State) : Result := .next (readM (.izx b) M6502.sbc s)

/-- `CPX zp` (R581). -/
def execMCpxZp (b : Byte) (s : State) : Result := .next (readM (.zp b) M6502.cpx s)

/-- `SBC zp` (R578, R579). -/
def execMSbcZp (b : Byte) (s : State) : Result := .next (readM (.zp b) M6502.sbc s)

/-- `INC zp` (R583). -/
def execMIncZp (b : Byte) (s : State) : Result := .next (modifyM (.zp b) M6502.inc s)

/-- `INX` (R584). -/
def execMInx (s : State) : Result := regsM (fun m => { m.setNZ (m.x + 1) with x := m.x + 1 }) s

/-- `SBC #b` (R578, R579). -/
def execMSbcImm (b : Byte) (s : State) : Result := regsM (M6502.sbc b) s

/-- `CPX abs` (R581). -/
def execMCpxAbs (addr : Word) (s : State) : Result := .next (readM (.abs addr) M6502.cpx s)

/-- `SBC abs` (R578, R579). -/
def execMSbcAbs (addr : Word) (s : State) : Result := .next (readM (.abs addr) M6502.sbc s)

/-- `INC abs` (R583). -/
def execMIncAbs (addr : Word) (s : State) : Result := .next (modifyM (.abs addr) M6502.inc s)

/-- `SBC (zp),Y` (R578, R579). -/
def execMSbcIzy (b : Byte) (s : State) : Result := .next (readM (.izy b) M6502.sbc s)

/-- `SBC zp,X` (R578, R579). -/
def execMSbcZpX (b : Byte) (s : State) : Result := .next (readM (.zpx b) M6502.sbc s)

/-- `INC zp,X` (R583). -/
def execMIncZpX (b : Byte) (s : State) : Result := .next (modifyM (.zpx b) M6502.inc s)

/-- `SBC abs,Y` (R578, R579). -/
def execMSbcAbsY (addr : Word) (s : State) : Result := .next (readM (.aby addr) M6502.sbc s)

/-- `SBC abs,X` (R578, R579). -/
def execMSbcAbsX (addr : Word) (s : State) : Result := .next (readM (.abx addr) M6502.sbc s)

/-- `INC abs,X` (R583). -/
def execMIncAbsX (addr : Word) (s : State) : Result := .next (modifyM (.abx addr) M6502.inc s)

end Sys2Proof.Machine
end

