-- ==== Sys2Proof/Machine/M6502B.lean ====
section
/-! DEFINITION. The 6502's shifts, jumps, branches, flag and system instructions, illegal opcodes (spec/47_m6502_b.md). -/
namespace Sys2Proof.Machine

/-- A shift's result: the byte, and the record with `C` and `setNZ` (R620 to R623). -/
def M6502.shifted (r : Byte × Bool) (m : M6502) : Byte × M6502 := (r.1, { m.setNZ r.1 with fc := r.2 })

/-- `ASL` of the byte `v` (R620). -/
def M6502.asl (v : Byte) (m : M6502) : Byte × M6502 := m.shifted (v <<< 1, v.msb)

/-- `LSR` of the byte `v` (R621). -/
def M6502.lsr (v : Byte) (m : M6502) : Byte × M6502 := m.shifted (v >>> 1, v.getLsbD 0)

/-- `ROL` of the byte `v` (R622). -/
def M6502.rol (v : Byte) (m : M6502) : Byte × M6502 := m.shifted ((v <<< 1) ||| boolByte m.fc, v.msb)

/-- `ROR` of the byte `v` (R623). -/
def M6502.ror (v : Byte) (m : M6502) : Byte × M6502 := m.shifted ((v >>> 1) ||| (boolByte m.fc <<< 7), v.getLsbD 0)

/-- The target of mode IND: the high byte of the target is read from the same page as the low byte (R551). -/
def indirectTarget (ptr : Word) (s : State) : Word × State :=
  let lo := memRead ptr s
  let hi := memRead (mk16 (hi8 ptr) (lo8 ptr + 1)) lo.2
  (mk16 hi.1 lo.1, hi.2)

/-- `BRK` (R645). -/
def execMBrk (s : State) : Result := .next (vectorM (s.m.pc + 1) true 0xFFFE s)

/-- `ASL zp` (R620). -/
def execMAslZp (b : Byte) (s : State) : Result := .next (modifyM (.zp b) M6502.asl s)

/-- `ASL A` (R620). -/
def execMAslA (s : State) : Result := regsM (fun m => { (M6502.asl m.a m).2 with a := (M6502.asl m.a m).1 }) s

/-- `ASL abs` (R620). -/
def execMAslAbs (addr : Word) (s : State) : Result := .next (modifyM (.abs addr) M6502.asl s)

/-- `BPL rel` (R635, R629). -/
def execMBpl (b : Byte) (s : State) : Result := .next (branchM (!s.m.fn) b s)

/-- `ASL zp,X` (R620). -/
def execMAslZpX (b : Byte) (s : State) : Result := .next (modifyM (.zpx b) M6502.asl s)

/-- `CLC` (R638). -/
def execMClc (s : State) : Result := regsM (fun m => { m with fc := false }) s

/-- `ASL abs,X` (R620). -/
def execMAslAbsX (addr : Word) (s : State) : Result := .next (modifyM (.abx addr) M6502.asl s)

/-- `JSR abs` (R627). -/
def execMJsr (addr : Word) (s : State) : Result := .next ((pushM16 (s.m.pc - 1) s).onM fun m => { m with pc := addr })

/-- `ROL zp` (R622). -/
def execMRolZp (b : Byte) (s : State) : Result := .next (modifyM (.zp b) M6502.rol s)

/-- `ROL A` (R622). -/
def execMRolA (s : State) : Result := regsM (fun m => { (M6502.rol m.a m).2 with a := (M6502.rol m.a m).1 }) s

/-- `ROL abs` (R622). -/
def execMRolAbs (addr : Word) (s : State) : Result := .next (modifyM (.abs addr) M6502.rol s)

/-- `BMI rel` (R633, R629). -/
def execMBmi (b : Byte) (s : State) : Result := .next (branchM s.m.fn b s)

/-- `ROL zp,X` (R622). -/
def execMRolZpX (b : Byte) (s : State) : Result := .next (modifyM (.zpx b) M6502.rol s)

/-- `SEC` (R642). -/
def execMSec (s : State) : Result := regsM (fun m => { m with fc := true }) s

/-- `ROL abs,X` (R622). -/
def execMRolAbsX (addr : Word) (s : State) : Result := .next (modifyM (.abx addr) M6502.rol s)

/-- `RTI` (R646). -/
def execMRti (s : State) : Result := .next (returnM s)

/-- `LSR zp` (R621). -/
def execMLsrZp (b : Byte) (s : State) : Result := .next (modifyM (.zp b) M6502.lsr s)

/-- `LSR A` (R621). -/
def execMLsrA (s : State) : Result := regsM (fun m => { (M6502.lsr m.a m).2 with a := (M6502.lsr m.a m).1 }) s

/-- `JMP abs` (R625). -/
def execMJmpAbs (addr : Word) (s : State) : Result := regsM (fun m => { m with pc := addr }) s

/-- `LSR abs` (R621). -/
def execMLsrAbs (addr : Word) (s : State) : Result := .next (modifyM (.abs addr) M6502.lsr s)

/-- `BVC rel` (R636, R629). -/
def execMBvc (b : Byte) (s : State) : Result := .next (branchM (!s.m.fv) b s)

/-- `LSR zp,X` (R621). -/
def execMLsrZpX (b : Byte) (s : State) : Result := .next (modifyM (.zpx b) M6502.lsr s)

/-- `CLI` (R640). -/
def execMCli (s : State) : Result := regsM (fun m => { m with fi := false }) s

/-- `LSR abs,X` (R621). -/
def execMLsrAbsX (addr : Word) (s : State) : Result := .next (modifyM (.abx addr) M6502.lsr s)

/-- `RTS` (R628). -/
def execMRts (s : State) : Result :=
  let v := pullM16 s
  .next (v.2.onM fun m => { m with pc := v.1 + 1 })

/-- `ROR zp` (R623). -/
def execMRorZp (b : Byte) (s : State) : Result := .next (modifyM (.zp b) M6502.ror s)

/-- `ROR A` (R623). -/
def execMRorA (s : State) : Result := regsM (fun m => { (M6502.ror m.a m).2 with a := (M6502.ror m.a m).1 }) s

/-- `JMP (abs)` (R626, R551). -/
def execMJmpInd (addr : Word) (s : State) : Result :=
  let v := indirectTarget addr s
  .next (v.2.onM fun m => { m with pc := v.1 })

/-- `ROR abs` (R623). -/
def execMRorAbs (addr : Word) (s : State) : Result := .next (modifyM (.abs addr) M6502.ror s)

/-- `BVS rel` (R637, R629). -/
def execMBvs (b : Byte) (s : State) : Result := .next (branchM s.m.fv b s)

/-- `ROR zp,X` (R623). -/
def execMRorZpX (b : Byte) (s : State) : Result := .next (modifyM (.zpx b) M6502.ror s)

/-- `SEI` (R644). -/
def execMSei (s : State) : Result := regsM (fun m => { m with fi := true }) s

/-- `ROR abs,X` (R623). -/
def execMRorAbsX (addr : Word) (s : State) : Result := .next (modifyM (.abx addr) M6502.ror s)

/-- `BCC rel` (R630, R629). -/
def execMBcc (b : Byte) (s : State) : Result := .next (branchM (!s.m.fc) b s)

/-- `BCS rel` (R631, R629). -/
def execMBcs (b : Byte) (s : State) : Result := .next (branchM s.m.fc b s)

/-- `CLV` (R641). -/
def execMClv (s : State) : Result := regsM (fun m => { m with fv := false }) s

/-- `BNE rel` (R634, R629). -/
def execMBne (b : Byte) (s : State) : Result := .next (branchM (!s.m.fz) b s)

/-- `CLD` (R639). -/
def execMCld (s : State) : Result := regsM (fun m => { m with fd := false }) s

/-- `NOP` (R647). -/
def execMNop (s : State) : Result := .next s

/-- `BEQ rel` (R632, R629). -/
def execMBeq (b : Byte) (s : State) : Result := .next (branchM s.m.fz b s)

/-- `SED` (R643). -/
def execMSed (s : State) : Result := regsM (fun m => { m with fd := true }) s

/-- `ILLEGAL op` (R648, R822). -/
def execMIllegal (op : Byte) (s : State) : Result := .next (illegalHook (s.m.pc - 1) [op] s)

end Sys2Proof.Machine
end

