-- ==== Sys2Proof/Machine/Z80Alu.lean ====
section
/-! DEFINITION. The Z80's arithmetic and logic instructions (spec/41_z80_alu.md). -/
namespace Sys2Proof.Machine

/-- `ADD HL,ss` (R315). -/
def execZAddHlSs (ss : RegSS) (s : State) : Result :=
  regsZ (fun z => { z.setHL (add16 z.hl (z.getSS ss) z.f).1 with f := (add16 z.hl (z.getSS ss) z.f).2 }) s

/-- `INC ss` (R319). -/
def execZIncSs (ss : RegSS) (s : State) : Result := regsZ (fun z => z.setSS ss (z.getSS ss + 1)) s

/-- `DEC ss` (R321). -/
def execZDecSs (ss : RegSS) (s : State) : Result := regsZ (fun z => z.setSS ss (z.getSS ss - 1)) s

/-- `INC r` (R304). -/
def execZIncR (r : Reg8) (s : State) : Result := regsZ (Z80.update8 r inc8) s

/-- `INC (HL)` (R305). -/
def execZIncMemHl (s : State) : Result := .next (modifyZ s.z.hl inc8 s)

/-- `DEC r` (R307). -/
def execZDecR (r : Reg8) (s : State) : Result := regsZ (Z80.update8 r dec8) s

/-- `DEC (HL)` (R308). -/
def execZDecMemHl (s : State) : Result := .next (modifyZ s.z.hl dec8 s)

/-- `DAA` (R310). -/
def execZDaa (s : State) : Result := regsZ (fun z => { z with a := (daa z.a z.f).1, f := (daa z.a z.f).2 }) s

/-- `CPL` (R311). -/
def execZCpl (s : State) : Result := regsZ (fun z => { z with a := (cpl z.a z.f).1, f := (cpl z.a z.f).2 }) s

/-- `SCF` (R314). -/
def execZScf (s : State) : Result := regsZ (fun z => { z with f := scf z.a z.f }) s

/-- `CCF` (R313). -/
def execZCcf (s : State) : Result := regsZ (fun z => { z with f := ccf z.a z.f }) s

/-- `ADD A,r` (R296). -/
def execZAddAR (r : Reg8) (s : State) : Result := regsZ (fun z => z.alu .add (z.get8 r)) s

/-- `ADD A,(HL)` (R296). -/
def execZAddAMemHl (s : State) : Result := loadZ s.z.hl (Z80.alu .add) s

/-- `ADD A,n` (R296). -/
def execZAddAN (n : Byte) (s : State) : Result := regsZ (Z80.alu .add n) s

/-- `ADC A,r` (R297). -/
def execZAdcAR (r : Reg8) (s : State) : Result := regsZ (fun z => z.alu .adc (z.get8 r)) s

/-- `ADC A,(HL)` (R297). -/
def execZAdcAMemHl (s : State) : Result := loadZ s.z.hl (Z80.alu .adc) s

/-- `ADC A,n` (R297). -/
def execZAdcAN (n : Byte) (s : State) : Result := regsZ (Z80.alu .adc n) s

/-- `SUB r` (R298). -/
def execZSubR (r : Reg8) (s : State) : Result := regsZ (fun z => z.alu .sub (z.get8 r)) s

/-- `SUB (HL)` (R298). -/
def execZSubMemHl (s : State) : Result := loadZ s.z.hl (Z80.alu .sub) s

/-- `SUB n` (R298). -/
def execZSubN (n : Byte) (s : State) : Result := regsZ (Z80.alu .sub n) s

/-- `SBC A,r` (R299). -/
def execZSbcAR (r : Reg8) (s : State) : Result := regsZ (fun z => z.alu .sbc (z.get8 r)) s

/-- `SBC A,(HL)` (R299). -/
def execZSbcAMemHl (s : State) : Result := loadZ s.z.hl (Z80.alu .sbc) s

/-- `SBC A,n` (R299). -/
def execZSbcAN (n : Byte) (s : State) : Result := regsZ (Z80.alu .sbc n) s

/-- `AND r` (R300). -/
def execZAndR (r : Reg8) (s : State) : Result := regsZ (fun z => z.alu .and (z.get8 r)) s

/-- `AND (HL)` (R300). -/
def execZAndMemHl (s : State) : Result := loadZ s.z.hl (Z80.alu .and) s

/-- `AND n` (R300). -/
def execZAndN (n : Byte) (s : State) : Result := regsZ (Z80.alu .and n) s

/-- `XOR r` (R301). -/
def execZXorR (r : Reg8) (s : State) : Result := regsZ (fun z => z.alu .xor (z.get8 r)) s

/-- `XOR (HL)` (R301). -/
def execZXorMemHl (s : State) : Result := loadZ s.z.hl (Z80.alu .xor) s

/-- `XOR n` (R301). -/
def execZXorN (n : Byte) (s : State) : Result := regsZ (Z80.alu .xor n) s

/-- `OR r` (R302). -/
def execZOrR (r : Reg8) (s : State) : Result := regsZ (fun z => z.alu .or (z.get8 r)) s

/-- `OR (HL)` (R302). -/
def execZOrMemHl (s : State) : Result := loadZ s.z.hl (Z80.alu .or) s

/-- `OR n` (R302). -/
def execZOrN (n : Byte) (s : State) : Result := regsZ (Z80.alu .or n) s

/-- `CP r` (R303). -/
def execZCpR (r : Reg8) (s : State) : Result := regsZ (fun z => z.alu .cp (z.get8 r)) s

/-- `CP (HL)` (R303). -/
def execZCpMemHl (s : State) : Result := loadZ s.z.hl (Z80.alu .cp) s

/-- `CP n` (R303). -/
def execZCpN (n : Byte) (s : State) : Result := regsZ (Z80.alu .cp n) s

/-- `SBC HL,ss` (R317). -/
def execZSbcHlSs (ss : RegSS) (s : State) : Result :=
  regsZ (fun z => { z.setHL (sbc16 z.hl (z.getSS ss) z.f).1 with f := (sbc16 z.hl (z.getSS ss) z.f).2 }) s

/-- `ADC HL,ss` (R316). -/
def execZAdcHlSs (ss : RegSS) (s : State) : Result :=
  regsZ (fun z => { z.setHL (adc16 z.hl (z.getSS ss) z.f).1 with f := (adc16 z.hl (z.getSS ss) z.f).2 }) s

/-- `NEG` (R312). -/
def execZNeg (s : State) : Result := regsZ (fun z => { z with a := (sub8 0 z.a false).1, f := (sub8 0 z.a false).2 }) s

/-- `ADD XY,pp` (R318). -/
def execZAddXyPp (xy : XYReg) (pp : RegPP) (s : State) : Result :=
  regsZ (fun z => { z.setXY xy (add16 (z.getXY xy) (z.getPP xy pp) z.f).1 with
    f := (add16 (z.getXY xy) (z.getPP xy pp) z.f).2 }) s

/-- `INC XY` (R320). -/
def execZIncXy (xy : XYReg) (s : State) : Result := regsZ (fun z => z.setXY xy (z.getXY xy + 1)) s

/-- `DEC XY` (R322). -/
def execZDecXy (xy : XYReg) (s : State) : Result := regsZ (fun z => z.setXY xy (z.getXY xy - 1)) s

/-- `INC (XY+d)` (R306). -/
def execZIncMemXy (xy : XYReg) (d : Byte) (s : State) : Result := .next (modifyZ (s.z.ea xy d) inc8 s)

/-- `DEC (XY+d)` (R309). -/
def execZDecMemXy (xy : XYReg) (d : Byte) (s : State) : Result := .next (modifyZ (s.z.ea xy d) dec8 s)

/-- `ADD A,(XY+d)` (R296). -/
def execZAddAMemXy (xy : XYReg) (d : Byte) (s : State) : Result := loadZ (s.z.ea xy d) (Z80.alu .add) s

/-- `ADC A,(XY+d)` (R297). -/
def execZAdcAMemXy (xy : XYReg) (d : Byte) (s : State) : Result := loadZ (s.z.ea xy d) (Z80.alu .adc) s

/-- `SUB (XY+d)` (R298). -/
def execZSubMemXy (xy : XYReg) (d : Byte) (s : State) : Result := loadZ (s.z.ea xy d) (Z80.alu .sub) s

/-- `SBC A,(XY+d)` (R299). -/
def execZSbcAMemXy (xy : XYReg) (d : Byte) (s : State) : Result := loadZ (s.z.ea xy d) (Z80.alu .sbc) s

/-- `AND (XY+d)` (R300). -/
def execZAndMemXy (xy : XYReg) (d : Byte) (s : State) : Result := loadZ (s.z.ea xy d) (Z80.alu .and) s

/-- `XOR (XY+d)` (R301). -/
def execZXorMemXy (xy : XYReg) (d : Byte) (s : State) : Result := loadZ (s.z.ea xy d) (Z80.alu .xor) s

/-- `OR (XY+d)` (R302). -/
def execZOrMemXy (xy : XYReg) (d : Byte) (s : State) : Result := loadZ (s.z.ea xy d) (Z80.alu .or) s

/-- `CP (XY+d)` (R303). -/
def execZCpMemXy (xy : XYReg) (d : Byte) (s : State) : Result := loadZ (s.z.ea xy d) (Z80.alu .cp) s

end Sys2Proof.Machine
end

