-- ==== Sys2Proof/Machine/Z80Control.lean ====
section
/-! DEFINITION. The Z80's jump, call, return and CPU control instructions (spec/43_z80_control.md). -/
namespace Sys2Proof.Machine

/-- `NOP` (R415). -/
def execZNop (s : State) : Result := .next s

/-- `DJNZ e` (R407). -/
def execZDjnz (e : Byte) (s : State) : Result :=
  let s1 := s.onZ fun z => { z with b := z.b - 1 }
  .next (if s1.z.b = 0 then s1 else cycZ s.cfg.cyc.djnzTaken (jumpZ (s.z.pc + sext8 e) s1))

/-- `JR e` (R403). -/
def execZJr (e : Byte) (s : State) : Result := .next (jumpZ (s.z.pc + sext8 e) s)

/-- `JR cc,e` (R404). -/
def execZJrCc (cc : Cond4) (e : Byte) (s : State) : Result :=
  .next (if holds4 cc s.z.f then cycZ s.cfg.cyc.jrTaken (jumpZ (s.z.pc + sext8 e) s) else s)

/-- `HALT` (R416). -/
def execZHalt (s : State) : Result := regsZ (fun z => { z with halted := true, pc := z.pc - 1 }) s

/-- `RET cc` (R411). -/
def execZRetCc (cc : Cond8) (s : State) : Result := .next (if holds8 cc s.z.f then cycZ s.cfg.cyc.retTaken (popPC s) else s)

/-- `RET` (R410). -/
def execZRet (s : State) : Result := .next (popPC s)

/-- `JP (HL)` (R405). -/
def execZJpHl (s : State) : Result := .next (jumpZ s.z.hl s)

/-- `JP cc,nn` (R402). -/
def execZJpCcNn (cc : Cond8) (nn : Word) (s : State) : Result := .next (if holds8 cc s.z.f then jumpZ nn s else s)

/-- `JP nn` (R401). -/
def execZJpNn (nn : Word) (s : State) : Result := .next (jumpZ nn s)

/-- `DI` (R417). -/
def execZDi (s : State) : Result := regsZ (fun z => { z with iff1 := false, iff2 := false }) s

/-- `EI` (R418). -/
def execZEi (s : State) : Result :=
  regsZ (fun z => { z with
    iff1 := true
    iff2 := true
    ibackup := if z.grace then z.ibackup + z.icount - 1 else z.icount
    icount := 1
    grace := true }) s

/-- `CALL cc,nn` (R409). -/
def execZCallCcNn (cc : Cond8) (nn : Word) (s : State) : Result :=
  .next (if holds8 cc s.z.f then cycZ s.cfg.cyc.callTaken (jumpZ nn (pushZ s.z.pc s)) else s)

/-- `CALL nn` (R408). -/
def execZCallNn (nn : Word) (s : State) : Result := .next (jumpZ nn (pushZ s.z.pc s))

/-- `RST p` (R414). -/
def execZRst (t : BitVec 3) (s : State) : Result := .next (jumpZ (rstTarget t) (pushZ s.z.pc s))

/-- `RETN` (R413). -/
def execZRetn (s : State) : Result := .next (returnZ s)

/-- `RETI` (R412). -/
def execZReti (s : State) : Result := .next (returnZ s)

/-- `IM 0` (R419). -/
def execZIm0 (s : State) : Result := regsZ (fun z => { z with im := .im0 }) s

/-- `IM 1` (R420). -/
def execZIm1 (s : State) : Result := regsZ (fun z => { z with im := .im1 }) s

/-- `IM 2` (R421). -/
def execZIm2 (s : State) : Result := regsZ (fun z => { z with im := .im2 }) s

/-- `JP (XY)` (R406). -/
def execZJpXy (xy : XYReg) (s : State) : Result := .next (jumpZ (s.z.getXY xy) s)

end Sys2Proof.Machine
end

