-- ==== Sys2Proof/Machine/Z80Load.lean ====
section
/-! DEFINITION. The Z80's loads, stack and exchange instructions (spec/40_z80_load.md). `PC` stands past the instruction, its cost is
charged and `R` advanced before a meaning runs (R230, R829). -/
namespace Sys2Proof.Machine

/-- The memory half of `EX (SP),HL` and `EX (SP),XY`: the word at `SP` is read, `v` written in its place, high byte first (R266). -/
def exchangeSP (v : Word) (s : State) : Word × State :=
  let r := memRead16 s.z.sp s
  (r.1, memWrite s.z.sp (lo8 v) (memWrite (s.z.sp + 1) (hi8 v) r.2))

/-- `EX AF,AF'` (R264). -/
def execZExAfAf (s : State) : Result := regsZ (fun z => { z with a := z.aAlt, f := z.fAlt, aAlt := z.a, fAlt := z.f }) s

/-- `LD dd,nn` (R249). -/
def execZLdDdNn (dd : RegSS) (nn : Word) (s : State) : Result := regsZ (Z80.setSS dd nn) s

/-- `LD (BC),A` (R242). -/
def execZLdMemBcA (s : State) : Result := .next (memWrite s.z.bc s.z.a s)

/-- `LD (DE),A` (R243). -/
def execZLdMemDeA (s : State) : Result := .next (memWrite s.z.de s.z.a s)

/-- `LD (nn),HL` (R254). -/
def execZLdMemNnHl (nn : Word) (s : State) : Result := .next (memWrite16 nn s.z.hl s)

/-- `LD (nn),A` (R244). -/
def execZLdMemNnA (nn : Word) (s : State) : Result := .next (memWrite nn s.z.a s)

/-- `LD A,(BC)` (R239). -/
def execZLdAMemBc (s : State) : Result := loadZ s.z.bc (Z80.set8 .a) s

/-- `LD A,(DE)` (R240). -/
def execZLdAMemDe (s : State) : Result := loadZ s.z.de (Z80.set8 .a) s

/-- `LD HL,(nn)` (R251). -/
def execZLdHlMemNn (nn : Word) (s : State) : Result := loadZ16 nn Z80.setHL s

/-- `LD A,(nn)` (R241). -/
def execZLdAMemNn (nn : Word) (s : State) : Result := loadZ nn (Z80.set8 .a) s

/-- `LD r,n` (R232). -/
def execZLdRN (r : Reg8) (n : Byte) (s : State) : Result := regsZ (Z80.set8 r n) s

/-- `LD (HL),n` (R237). -/
def execZLdMemHlN (n : Byte) (s : State) : Result := .next (memWrite s.z.hl n s)

/-- `LD r,r'` (R231). -/
def execZLdRR (r r' : Reg8) (s : State) : Result := regsZ (fun z => z.set8 r (z.get8 r')) s

/-- `LD r,(HL)` (R233). -/
def execZLdRMemHl (r : Reg8) (s : State) : Result := loadZ s.z.hl (Z80.set8 r) s

/-- `LD (HL),r` (R235). -/
def execZLdMemHlR (r : Reg8) (s : State) : Result := .next (memWrite s.z.hl (s.z.get8 r) s)

/-- `POP qq` (R261). -/
def execZPopQq (qq : RegQQ) (s : State) : Result :=
  let v := popZ s
  .next (v.2.onZ (Z80.setQQ qq v.1))

/-- `EXX` (R265). -/
def execZExx (s : State) : Result :=
  regsZ (fun z => { z with
    b := z.bAlt, c := z.cAlt, d := z.dAlt, e := z.eAlt, h := z.hAlt, l := z.lAlt,
    bAlt := z.b, cAlt := z.c, dAlt := z.d, eAlt := z.e, hAlt := z.h, lAlt := z.l }) s

/-- `LD SP,HL` (R257). -/
def execZLdSpHl (s : State) : Result := regsZ (fun z => { z with sp := z.hl }) s

/-- `EX (SP),HL` (R266). -/
def execZExMemSpHl (s : State) : Result :=
  let v := exchangeSP s.z.hl s
  .next (v.2.onZ (Z80.setHL v.1))

/-- `EX DE,HL` (R263). -/
def execZExDeHl (s : State) : Result := regsZ (fun z => { z with d := z.h, e := z.l, h := z.d, l := z.e }) s

/-- `PUSH qq` (R259). -/
def execZPushQq (qq : RegQQ) (s : State) : Result := .next (pushZ (s.z.getQQ qq) s)

/-- `LD (nn),dd` (R255). -/
def execZLdMemNnDd (dd : RegSS) (nn : Word) (s : State) : Result := .next (memWrite16 nn (s.z.getSS dd) s)

/-- `LD dd,(nn)` (R252). -/
def execZLdDdMemNn (dd : RegSS) (nn : Word) (s : State) : Result := loadZ16 nn (Z80.setSS dd) s

/-- `LD I,A` (R247). -/
def execZLdIA (s : State) : Result := regsZ (fun z => { z with i := z.a }) s

/-- `LD R,A` (R248). -/
def execZLdRA (s : State) : Result := regsZ (fun z => { z with r := z.a }) s

/-- `LD A,I` (R245). -/
def execZLdAI (s : State) : Result := regsZ (fun z => { z with a := z.i, f := loadSpecialFlags z.i z.f z.iff2 }) s

/-- `LD A,R` (R246). -/
def execZLdAR (s : State) : Result := regsZ (fun z => { z with a := z.r, f := loadSpecialFlags z.r z.f z.iff2 }) s

/-- `LD XY,nn` (R250). -/
def execZLdXyNn (xy : XYReg) (nn : Word) (s : State) : Result := regsZ (Z80.setXY xy nn) s

/-- `LD (nn),XY` (R256). -/
def execZLdMemNnXy (xy : XYReg) (nn : Word) (s : State) : Result := .next (memWrite16 nn (s.z.getXY xy) s)

/-- `LD XY,(nn)` (R253). -/
def execZLdXyMemNn (xy : XYReg) (nn : Word) (s : State) : Result := loadZ16 nn (Z80.setXY xy) s

/-- `LD (XY+d),n` (R238). -/
def execZLdMemXyN (xy : XYReg) (d n : Byte) (s : State) : Result := .next (memWrite (s.z.ea xy d) n s)

/-- `LD r,(XY+d)` (R234). -/
def execZLdRMemXy (xy : XYReg) (r : Reg8) (d : Byte) (s : State) : Result := loadZ (s.z.ea xy d) (Z80.set8 r) s

/-- `LD (XY+d),r` (R236). -/
def execZLdMemXyR (xy : XYReg) (r : Reg8) (d : Byte) (s : State) : Result := .next (memWrite (s.z.ea xy d) (s.z.get8 r) s)

/-- `POP XY` (R262). -/
def execZPopXy (xy : XYReg) (s : State) : Result :=
  let v := popZ s
  .next (v.2.onZ (Z80.setXY xy v.1))

/-- `EX (SP),XY` (R267). -/
def execZExMemSpXy (xy : XYReg) (s : State) : Result :=
  let v := exchangeSP (s.z.getXY xy) s
  .next (v.2.onZ (Z80.setXY xy v.1))

/-- `PUSH XY` (R260). -/
def execZPushXy (xy : XYReg) (s : State) : Result := .next (pushZ (s.z.getXY xy) s)

/-- `LD SP,XY` (R258). -/
def execZLdSpXy (xy : XYReg) (s : State) : Result := regsZ (fun z => { z with sp := z.getXY xy }) s

end Sys2Proof.Machine
end

