-- ==== Sys2Proof/Machine/Z80BlockIo.lean ====
section
/-! DEFINITION. The Z80's block and input/output instructions (spec/44_z80_block_io.md). -/
namespace Sys2Proof.Machine

/-- One iteration of `LDI` (`step = 1`) or `LDD` (`step = -1`) (R451, R453). -/
def blockLoad (step : Word) (s : State) : State :=
  let r := memRead s.z.hl s
  (memWrite s.z.de r.1 r.2).onZ fun z =>
    { ((z.setHL (z.hl + step)).setDE (z.de + step)).setBC (z.bc - 1) with f := ldiFlags z.a r.1 z.f (z.bc - 1) }

/-- One iteration of `CPI` (`step = 1`) or `CPD` (`step = -1`) (R455, R457). -/
def blockCompare (step : Word) (s : State) : State :=
  let r := memRead s.z.hl s
  r.2.onZ fun z => { (z.setHL (z.hl + step)).setBC (z.bc - 1) with f := cpiFlags z.a r.1 z.f (z.bc - 1) }

/-- One iteration of `INI` (`step = 1`, `j = 1`) or `IND` (`step = -1`, `j = -1`): `k = t + ((C + j) mod 256)` (R461, R463). -/
def blockIn (step : Word) (j : Byte) (s : State) : State :=
  let r := portIn s.z.bc s
  (memWrite r.2.z.hl r.1 r.2).onZ fun z =>
    { z.setHL (z.hl + step) with b := z.b - 1, f := blockIoFlags r.1 (z.b - 1) (z.c + j) }

/-- One iteration of `OUTI` (`step = 1`) or `OUTD` (`step = -1`): the port is `BC` after `B` is decremented, `k = t + L` with `L`
after the step (R467, R469). -/
def blockOut (step : Word) (s : State) : State :=
  let r := memRead s.z.hl s
  let s1 := r.2.onZ fun z => { z with b := z.b - 1 }
  (portOut s1.z.bc r.1 s1).onZ fun z =>
    { z.setHL (z.hl + step) with f := blockIoFlags r.1 z.b (lo8 (z.hl + step)) }

/-- The repeat of a block instruction: `pc <- PC - 2` and the penalty, when the test holds after the iteration (R450, R935). -/
def repeatIf (test : Z80 → Bool) (s : State) : State :=
  if test s.z then cycZ s.cfg.cyc.blockRepeat (jumpZ (s.z.pc - 2) s) else s

/-- `IN` from port `BC`, then the change of the Z80 record (R460, R508). -/
def inputC (f : Byte → Z80 → Z80) (s : State) : Result :=
  let r := portIn s.z.bc s
  .next (r.2.onZ (f r.1))

/-- `OUT (n),A` (R465). -/
def execZOutNA (n : Byte) (s : State) : Result := .next (portOut (mk16 s.z.a n) s.z.a s)

/-- `IN A,(n)` (R459). -/
def execZInAN (n : Byte) (s : State) : Result :=
  let v := portIn (mk16 s.z.a n) s
  .next (v.2.onZ fun z => { z with a := v.1 })

/-- `IN r,(C)` (R460). -/
def execZInRC (r : Reg8) (s : State) : Result :=
  inputC (fun v z => { z.set8 r v with f := sz53p v false false (flagC z.f) }) s

/-- `OUT (C),r` (R466). -/
def execZOutCR (r : Reg8) (s : State) : Result := .next (portOut s.z.bc (s.z.get8 r) s)

/-- `LDI` (R451). -/
def execZLdi (s : State) : Result := .next (blockLoad 1 s)

/-- `CPI` (R455). -/
def execZCpi (s : State) : Result := .next (blockCompare 1 s)

/-- `INI` (R461). -/
def execZIni (s : State) : Result := .next (blockIn 1 1 s)

/-- `OUTI` (R467). -/
def execZOuti (s : State) : Result := .next (blockOut 1 s)

/-- `LDD` (R453). -/
def execZLdd (s : State) : Result := .next (blockLoad (-1) s)

/-- `CPD` (R457). -/
def execZCpd (s : State) : Result := .next (blockCompare (-1) s)

/-- `IND` (R463). -/
def execZInd (s : State) : Result := .next (blockIn (-1) (-1) s)

/-- `OUTD` (R469). -/
def execZOutd (s : State) : Result := .next (blockOut (-1) s)

/-- `LDIR` (R452, R450). -/
def execZLdir (s : State) : Result := .next (repeatIf (fun z => z.bc != 0) (blockLoad 1 s))

/-- `CPIR` (R456, R450). -/
def execZCpir (s : State) : Result := .next (repeatIf (fun z => z.bc != 0 && !flagZ z.f) (blockCompare 1 s))

/-- `INIR` (R462, R450). -/
def execZInir (s : State) : Result := .next (repeatIf (fun z => z.b != 0) (blockIn 1 1 s))

/-- `OTIR` (R468, R450). -/
def execZOtir (s : State) : Result := .next (repeatIf (fun z => z.b != 0) (blockOut 1 s))

/-- `LDDR` (R454, R450). -/
def execZLddr (s : State) : Result := .next (repeatIf (fun z => z.bc != 0) (blockLoad (-1) s))

/-- `CPDR` (R458, R450). -/
def execZCpdr (s : State) : Result := .next (repeatIf (fun z => z.bc != 0 && !flagZ z.f) (blockCompare (-1) s))

/-- `INDR` (R464, R450). -/
def execZIndr (s : State) : Result := .next (repeatIf (fun z => z.b != 0) (blockIn (-1) (-1) s))

/-- `OTDR` (R470, R450). -/
def execZOtdr (s : State) : Result := .next (repeatIf (fun z => z.b != 0) (blockOut (-1) s))

end Sys2Proof.Machine
end

