-- ==== Sys2Proof/Machine/Z80Rotate.lean ====
section
/-! DEFINITION. The Z80's rotate, shift and bit instructions (spec/42_z80_rotate_bit.md). -/
namespace Sys2Proof.Machine

/-- `RLD` and `RRD`: `op a v` gives the byte written back and the new `A` (R363, R364). -/
def decimalRotate (op : Byte → Byte → Byte × Byte) (s : State) : State :=
  let r := memRead s.z.hl s
  let w := op r.2.z.a r.1
  (memWrite s.z.hl w.1 r.2).onZ fun z => { z with a := w.2, f := sz53p w.2 false false (flagC z.f) }

/-- `SET b` on a byte; the flags stay (R368). -/
def setBit (b : BitVec 3) (v f : Byte) : Byte × Byte := (v ||| bitMask b, f)

/-- `RES b` on a byte; the flags stay (R369). -/
def resBit (b : BitVec 3) (v f : Byte) : Byte × Byte := (v &&& ~~~bitMask b, f)

/-- `BIT b,(XY+d)`: `F5` and `F3` come from the high byte of the effective address (R367, R506). -/
def bitIndexed (xy : XYReg) (d : Byte) (b : BitVec 3) (s : State) : Result :=
  let a := s.z.ea xy d
  loadZ a (fun v z => { z with f := bitFlags b v (a.getLsbD 13) (a.getLsbD 11) z.f }) s

/-- `RLCA` (R351). -/
def execZRlca (s : State) : Result :=
  regsZ (fun z => { z with a := (rotateA .rlc z.a z.f).1, f := (rotateA .rlc z.a z.f).2 }) s

/-- `RRCA` (R353). -/
def execZRrca (s : State) : Result :=
  regsZ (fun z => { z with a := (rotateA .rrc z.a z.f).1, f := (rotateA .rrc z.a z.f).2 }) s

/-- `RLA` (R352). -/
def execZRla (s : State) : Result := regsZ (fun z => { z with a := (rotateA .rl z.a z.f).1, f := (rotateA .rl z.a z.f).2 }) s

/-- `RRA` (R354). -/
def execZRra (s : State) : Result := regsZ (fun z => { z with a := (rotateA .rr z.a z.f).1, f := (rotateA .rr z.a z.f).2 }) s

/-- `RLC r` (R355, R350). -/
def execZRlcR (r : Reg8) (s : State) : Result := regsZ (Z80.update8 r (rotateM .rlc)) s

/-- `RLC (HL)` (R355, R350). -/
def execZRlcMemHl (s : State) : Result := .next (modifyZ s.z.hl (rotateM .rlc) s)

/-- `RRC r` (R357, R350). -/
def execZRrcR (r : Reg8) (s : State) : Result := regsZ (Z80.update8 r (rotateM .rrc)) s

/-- `RRC (HL)` (R357, R350). -/
def execZRrcMemHl (s : State) : Result := .next (modifyZ s.z.hl (rotateM .rrc) s)

/-- `RL r` (R356, R350). -/
def execZRlR (r : Reg8) (s : State) : Result := regsZ (Z80.update8 r (rotateM .rl)) s

/-- `RL (HL)` (R356, R350). -/
def execZRlMemHl (s : State) : Result := .next (modifyZ s.z.hl (rotateM .rl) s)

/-- `RR r` (R358, R350). -/
def execZRrR (r : Reg8) (s : State) : Result := regsZ (Z80.update8 r (rotateM .rr)) s

/-- `RR (HL)` (R358, R350). -/
def execZRrMemHl (s : State) : Result := .next (modifyZ s.z.hl (rotateM .rr) s)

/-- `SLA r` (R359, R350). -/
def execZSlaR (r : Reg8) (s : State) : Result := regsZ (Z80.update8 r (rotateM .sla)) s

/-- `SLA (HL)` (R359, R350). -/
def execZSlaMemHl (s : State) : Result := .next (modifyZ s.z.hl (rotateM .sla) s)

/-- `SRA r` (R360, R350). -/
def execZSraR (r : Reg8) (s : State) : Result := regsZ (Z80.update8 r (rotateM .sra)) s

/-- `SRA (HL)` (R360, R350). -/
def execZSraMemHl (s : State) : Result := .next (modifyZ s.z.hl (rotateM .sra) s)

/-- `SRL r` (R361, R350). -/
def execZSrlR (r : Reg8) (s : State) : Result := regsZ (Z80.update8 r (rotateM .srl)) s

/-- `SRL (HL)` (R361, R350). -/
def execZSrlMemHl (s : State) : Result := .next (modifyZ s.z.hl (rotateM .srl) s)

/-- `BIT b,r` (R365). -/
def execZBitBR (b : BitVec 3) (r : Reg8) (s : State) : Result :=
  regsZ (fun z => { z with f := bitFlags b (z.get8 r) ((z.get8 r).getLsbD 5) ((z.get8 r).getLsbD 3) z.f }) s

/-- `BIT b,(HL)` (R366). -/
def execZBitBMemHl (b : BitVec 3) (s : State) : Result :=
  let v := memRead s.z.hl s
  let free := Config.freeFlags v.2.tick
  .next ({ v.2 with tick := v.2.tick + 1 }.onZ fun z =>
    { z with f := bitFlags b v.1 (free.getLsbD 5) (free.getLsbD 3) z.f })

/-- `RES b,r` (R369). -/
def execZResBR (b : BitVec 3) (r : Reg8) (s : State) : Result := regsZ (Z80.update8 r (resBit b)) s

/-- `RES b,(HL)` (R369). -/
def execZResBMemHl (b : BitVec 3) (s : State) : Result := .next (modifyZ s.z.hl (resBit b) s)

/-- `SET b,r` (R368). -/
def execZSetBR (b : BitVec 3) (r : Reg8) (s : State) : Result := regsZ (Z80.update8 r (setBit b)) s

/-- `SET b,(HL)` (R368). -/
def execZSetBMemHl (b : BitVec 3) (s : State) : Result := .next (modifyZ s.z.hl (setBit b) s)

/-- `RRD` (R364). -/
def execZRrd (s : State) : Result :=
  .next (decimalRotate (fun a v => ((a <<< 4) ||| (v >>> 4), (a &&& 0xF0) ||| (v &&& 0x0F))) s)

/-- `RLD` (R363). -/
def execZRld (s : State) : Result :=
  .next (decimalRotate (fun a v => ((v <<< 4) ||| (a &&& 0x0F), (a &&& 0xF0) ||| (v >>> 4))) s)

/-- `RLC (XY+d)` (R355, R350). -/
def execZRlcMemXy (xy : XYReg) (d : Byte) (s : State) : Result := .next (modifyZ (s.z.ea xy d) (rotateM .rlc) s)

/-- `RRC (XY+d)` (R357, R350). -/
def execZRrcMemXy (xy : XYReg) (d : Byte) (s : State) : Result := .next (modifyZ (s.z.ea xy d) (rotateM .rrc) s)

/-- `RL (XY+d)` (R356, R350). -/
def execZRlMemXy (xy : XYReg) (d : Byte) (s : State) : Result := .next (modifyZ (s.z.ea xy d) (rotateM .rl) s)

/-- `RR (XY+d)` (R358, R350). -/
def execZRrMemXy (xy : XYReg) (d : Byte) (s : State) : Result := .next (modifyZ (s.z.ea xy d) (rotateM .rr) s)

/-- `SLA (XY+d)` (R359, R350). -/
def execZSlaMemXy (xy : XYReg) (d : Byte) (s : State) : Result := .next (modifyZ (s.z.ea xy d) (rotateM .sla) s)

/-- `SRA (XY+d)` (R360, R350). -/
def execZSraMemXy (xy : XYReg) (d : Byte) (s : State) : Result := .next (modifyZ (s.z.ea xy d) (rotateM .sra) s)

/-- `SRL (XY+d)` (R361, R350). -/
def execZSrlMemXy (xy : XYReg) (d : Byte) (s : State) : Result := .next (modifyZ (s.z.ea xy d) (rotateM .srl) s)

/-- `BIT b,(XY+d)` (R367). -/
def execZBitBMemXy (xy : XYReg) (d : Byte) (b : BitVec 3) (s : State) : Result := bitIndexed xy d b s

/-- `RES b,(XY+d)` (R369). -/
def execZResBMemXy (xy : XYReg) (d : Byte) (b : BitVec 3) (s : State) : Result := .next (modifyZ (s.z.ea xy d) (resBit b) s)

/-- `SET b,(XY+d)` (R368). -/
def execZSetBMemXy (xy : XYReg) (d : Byte) (b : BitVec 3) (s : State) : Result := .next (modifyZ (s.z.ea xy d) (setBit b) s)

end Sys2Proof.Machine
end

