-- ==== Sys2Proof/Machine/Z80Undoc.lean ====
section
/-! DEFINITION. The Z80's undocumented and undefined encodings (spec/45_z80_undoc.md). -/
namespace Sys2Proof.Machine

/-- Changes `XYH` or `XYL` and the flags by `op` (R503). -/
def Z80.updateHalf (xy : XYReg) (l : Half) (op : Byte → Byte → Byte × Byte) (z : Z80) : Z80 :=
  { z.setHalf xy l (op (z.getHalf xy l) z.f).1 with f := (op (z.getHalf xy l) z.f).2 }

/-- The register-copy forms of the indexed CB page: the operation on the byte at `ea`, then the result also to `r` (R505). -/
def modifyCopy (xy : XYReg) (d : Byte) (r : Reg8) (op : Byte → Byte → Byte × Byte) (s : State) : Result :=
  let a := s.z.ea xy d
  let v := memRead a s
  let w := op v.1 v.2.z.f
  .next ((memWrite a w.1 v.2).onZ fun z => { z.set8 r w.1 with f := w.2 })

/-- `SLL r` (R504, R350). -/
def execZSllR (r : Reg8) (s : State) : Result := undocumented (.zSllR r) (regsZ (Z80.update8 r (rotateM .sll))) s

/-- `SLL (HL)` (R504, R350). -/
def execZSllMemHl (s : State) : Result := undocumented .zSllMemHl (fun s => .next (modifyZ s.z.hl (rotateM .sll) s)) s

/-- `IN F,(C)` (R508). -/
def execZInFC (s : State) : Result :=
  undocumented .zInFC (inputC fun v z => { z with f := sz53p v false false (flagC z.f) }) s

/-- `OUT (C),0` (R509). -/
def execZOutC0 (s : State) : Result := undocumented .zOutC0 (fun s => .next (portOut s.z.bc 0x00 s)) s

/-- `NEG (copy)` (R507, R312). -/
def execZNegCopy (y : BitVec 3) (s : State) : Result :=
  undocumented (.zNegCopy y) (regsZ fun z => { z with a := (sub8 0 z.a false).1, f := (sub8 0 z.a false).2 }) s

/-- `RETN (copy)` (R507, R413). -/
def execZRetnCopy (y : BitVec 3) (s : State) : Result := undocumented (.zRetnCopy y) (fun s => .next (returnZ s)) s

/-- `IM 0 (copy)` (R507, R419). -/
def execZIm0Copy4E (s : State) : Result := undocumented .zIm0Copy4E (regsZ fun z => { z with im := .im0 }) s

/-- `IM 0 (copy)` (R507, R419). -/
def execZIm0Copy66 (s : State) : Result := undocumented .zIm0Copy66 (regsZ fun z => { z with im := .im0 }) s

/-- `IM 0 (copy)` (R507, R419). -/
def execZIm0Copy6E (s : State) : Result := undocumented .zIm0Copy6E (regsZ fun z => { z with im := .im0 }) s

/-- `IM 1 (copy)` (R507, R420). -/
def execZIm1Copy (s : State) : Result := undocumented .zIm1Copy (regsZ fun z => { z with im := .im1 }) s

/-- `IM 2 (copy)` (R507, R421). -/
def execZIm2Copy (s : State) : Result := undocumented .zIm2Copy (regsZ fun z => { z with im := .im2 }) s

/-- `ILLEGAL ED op` (R510, R821). -/
def execZIllegalEd (op : Byte) (s : State) : Result := .next (illegalZ (.zIllegalEd op) s)

/-- `INC XYH/XYL` (R503, R304). -/
def execZIncXyHalf (xy : XYReg) (l : Half) (s : State) : Result :=
  undocumented (.zIncXyHalf xy l) (regsZ (Z80.updateHalf xy l inc8)) s

/-- `DEC XYH/XYL` (R503, R307). -/
def execZDecXyHalf (xy : XYReg) (l : Half) (s : State) : Result :=
  undocumented (.zDecXyHalf xy l) (regsZ (Z80.updateHalf xy l dec8)) s

/-- `LD XYH/XYL,n` (R503, R232). -/
def execZLdXyHalfN (xy : XYReg) (l : Half) (n : Byte) (s : State) : Result :=
  undocumented (.zLdXyHalfN xy l n) (regsZ (Z80.setHalf xy l n)) s

/-- `LD XYH/XYL,r'` (R503, R231). -/
def execZLdXyHalfR (xy : XYReg) (l : Half) (r' : XYOp) (s : State) : Result :=
  undocumented (.zLdXyHalfR xy l r') (regsZ fun z => z.setHalf xy l (z.getXYOp xy r')) s

/-- `LD r,XYH/XYL` (R503, R231). -/
def execZLdRXyHalf (xy : XYReg) (r : Reg8) (l : Half) (s : State) : Result :=
  undocumented (.zLdRXyHalf xy r l) (regsZ fun z => z.set8 r (z.getHalf xy l)) s

/-- `ADD A,XYH/XYL` (R503, R296). -/
def execZAddAXyHalf (xy : XYReg) (l : Half) (s : State) : Result :=
  undocumented (.zAddAXyHalf xy l) (regsZ fun z => z.alu .add (z.getHalf xy l)) s

/-- `ADC A,XYH/XYL` (R503, R297). -/
def execZAdcAXyHalf (xy : XYReg) (l : Half) (s : State) : Result :=
  undocumented (.zAdcAXyHalf xy l) (regsZ fun z => z.alu .adc (z.getHalf xy l)) s

/-- `SUB XYH/XYL` (R503, R298). -/
def execZSubXyHalf (xy : XYReg) (l : Half) (s : State) : Result :=
  undocumented (.zSubXyHalf xy l) (regsZ fun z => z.alu .sub (z.getHalf xy l)) s

/-- `SBC A,XYH/XYL` (R503, R299). -/
def execZSbcAXyHalf (xy : XYReg) (l : Half) (s : State) : Result :=
  undocumented (.zSbcAXyHalf xy l) (regsZ fun z => z.alu .sbc (z.getHalf xy l)) s

/-- `AND XYH/XYL` (R503, R300). -/
def execZAndXyHalf (xy : XYReg) (l : Half) (s : State) : Result :=
  undocumented (.zAndXyHalf xy l) (regsZ fun z => z.alu .and (z.getHalf xy l)) s

/-- `XOR XYH/XYL` (R503, R301). -/
def execZXorXyHalf (xy : XYReg) (l : Half) (s : State) : Result :=
  undocumented (.zXorXyHalf xy l) (regsZ fun z => z.alu .xor (z.getHalf xy l)) s

/-- `OR XYH/XYL` (R503, R302). -/
def execZOrXyHalf (xy : XYReg) (l : Half) (s : State) : Result :=
  undocumented (.zOrXyHalf xy l) (regsZ fun z => z.alu .or (z.getHalf xy l)) s

/-- `CP XYH/XYL` (R503, R303). -/
def execZCpXyHalf (xy : XYReg) (l : Half) (s : State) : Result :=
  undocumented (.zCpXyHalf xy l) (regsZ fun z => z.alu .cp (z.getHalf xy l)) s

/-- `SLL (XY+d)` (R504, R350). -/
def execZSllMemXy (xy : XYReg) (d : Byte) (s : State) : Result :=
  undocumented (.zSllMemXy xy d) (fun s => .next (modifyZ (s.z.ea xy d) (rotateM .sll) s)) s

/-- `rot (XY+d) -> r` (R505, R355, R357, R356, R358, R359, R360, R504, R361). -/
def execZRotMemXyR (xy : XYReg) (d : Byte) (rot : Rot) (r : Reg8) (s : State) : Result :=
  undocumented (.zRotMemXyR xy d rot r) (modifyCopy xy d r (rotateM rot)) s

/-- `BIT b,(XY+d) (z != 6)` (R506, R367). -/
def execZBitBMemXyZ (xy : XYReg) (d : Byte) (b z : BitVec 3) (s : State) : Result :=
  undocumented (.zBitBMemXyZ xy d b z) (bitIndexed xy d b) s

/-- `RES b,(XY+d) -> r` (R505, R369). -/
def execZResBMemXyR (xy : XYReg) (d : Byte) (b : BitVec 3) (r : Reg8) (s : State) : Result :=
  undocumented (.zResBMemXyR xy d b r) (modifyCopy xy d r (resBit b)) s

/-- `SET b,(XY+d) -> r` (R505, R368). -/
def execZSetBMemXyR (xy : XYReg) (d : Byte) (b : BitVec 3) (r : Reg8) (s : State) : Result :=
  undocumented (.zSetBMemXyR xy d b r) (modifyCopy xy d r (setBit b)) s

/-- `(ignored DD/FD prefix)` (R502). -/
def execZPrefix (_xy : XYReg) (_next : Byte) (s : State) : Result := .next s

/-- `(ignored DD/FD prefix before another DD/FD)` (R511, R502). -/
def execZPrefixPrefix (_xy _nextXy : XYReg) (s : State) : Result := .next s

end Sys2Proof.Machine
end

