-- ==== Sys2Proof/Machine/Dispatch.lean ====
section
/-! DEFINITION. The dispatch: one arm per instruction, each one direct call of its meaning. -/
namespace Sys2Proof.Machine

/-- Performs one instruction. `PC` stands past it, `R` is advanced and the table cost charged (R829, R842). -/
def exec (i : Instr) (s : State) : Host.Outcome State Fault Refusal :=
  match i with
  | .zNop => Sys2Proof.Machine.execZNop s
  | .zExAfAf => Sys2Proof.Machine.execZExAfAf s
  | .zDjnz e => Sys2Proof.Machine.execZDjnz e s
  | .zJr e => Sys2Proof.Machine.execZJr e s
  | .zJrCc cc e => Sys2Proof.Machine.execZJrCc cc e s
  | .zLdDdNn dd nn => Sys2Proof.Machine.execZLdDdNn dd nn s
  | .zAddHlSs ss => Sys2Proof.Machine.execZAddHlSs ss s
  | .zLdMemBcA => Sys2Proof.Machine.execZLdMemBcA s
  | .zLdMemDeA => Sys2Proof.Machine.execZLdMemDeA s
  | .zLdMemNnHl nn => Sys2Proof.Machine.execZLdMemNnHl nn s
  | .zLdMemNnA nn => Sys2Proof.Machine.execZLdMemNnA nn s
  | .zLdAMemBc => Sys2Proof.Machine.execZLdAMemBc s
  | .zLdAMemDe => Sys2Proof.Machine.execZLdAMemDe s
  | .zLdHlMemNn nn => Sys2Proof.Machine.execZLdHlMemNn nn s
  | .zLdAMemNn nn => Sys2Proof.Machine.execZLdAMemNn nn s
  | .zIncSs ss => Sys2Proof.Machine.execZIncSs ss s
  | .zDecSs ss => Sys2Proof.Machine.execZDecSs ss s
  | .zIncR r => Sys2Proof.Machine.execZIncR r s
  | .zIncMemHl => Sys2Proof.Machine.execZIncMemHl s
  | .zDecR r => Sys2Proof.Machine.execZDecR r s
  | .zDecMemHl => Sys2Proof.Machine.execZDecMemHl s
  | .zLdRN r n => Sys2Proof.Machine.execZLdRN r n s
  | .zLdMemHlN n => Sys2Proof.Machine.execZLdMemHlN n s
  | .zRlca => Sys2Proof.Machine.execZRlca s
  | .zRrca => Sys2Proof.Machine.execZRrca s
  | .zRla => Sys2Proof.Machine.execZRla s
  | .zRra => Sys2Proof.Machine.execZRra s
  | .zDaa => Sys2Proof.Machine.execZDaa s
  | .zCpl => Sys2Proof.Machine.execZCpl s
  | .zScf => Sys2Proof.Machine.execZScf s
  | .zCcf => Sys2Proof.Machine.execZCcf s
  | .zLdRR r r' => Sys2Proof.Machine.execZLdRR r r' s
  | .zLdRMemHl r => Sys2Proof.Machine.execZLdRMemHl r s
  | .zLdMemHlR r => Sys2Proof.Machine.execZLdMemHlR r s
  | .zHalt => Sys2Proof.Machine.execZHalt s
  | .zAddAR r => Sys2Proof.Machine.execZAddAR r s
  | .zAddAMemHl => Sys2Proof.Machine.execZAddAMemHl s
  | .zAddAN n => Sys2Proof.Machine.execZAddAN n s
  | .zAdcAR r => Sys2Proof.Machine.execZAdcAR r s
  | .zAdcAMemHl => Sys2Proof.Machine.execZAdcAMemHl s
  | .zAdcAN n => Sys2Proof.Machine.execZAdcAN n s
  | .zSubR r => Sys2Proof.Machine.execZSubR r s
  | .zSubMemHl => Sys2Proof.Machine.execZSubMemHl s
  | .zSubN n => Sys2Proof.Machine.execZSubN n s
  | .zSbcAR r => Sys2Proof.Machine.execZSbcAR r s
  | .zSbcAMemHl => Sys2Proof.Machine.execZSbcAMemHl s
  | .zSbcAN n => Sys2Proof.Machine.execZSbcAN n s
  | .zAndR r => Sys2Proof.Machine.execZAndR r s
  | .zAndMemHl => Sys2Proof.Machine.execZAndMemHl s
  | .zAndN n => Sys2Proof.Machine.execZAndN n s
  | .zXorR r => Sys2Proof.Machine.execZXorR r s
  | .zXorMemHl => Sys2Proof.Machine.execZXorMemHl s
  | .zXorN n => Sys2Proof.Machine.execZXorN n s
  | .zOrR r => Sys2Proof.Machine.execZOrR r s
  | .zOrMemHl => Sys2Proof.Machine.execZOrMemHl s
  | .zOrN n => Sys2Proof.Machine.execZOrN n s
  | .zCpR r => Sys2Proof.Machine.execZCpR r s
  | .zCpMemHl => Sys2Proof.Machine.execZCpMemHl s
  | .zCpN n => Sys2Proof.Machine.execZCpN n s
  | .zRetCc cc => Sys2Proof.Machine.execZRetCc cc s
  | .zPopQq qq => Sys2Proof.Machine.execZPopQq qq s
  | .zRet => Sys2Proof.Machine.execZRet s
  | .zExx => Sys2Proof.Machine.execZExx s
  | .zJpHl => Sys2Proof.Machine.execZJpHl s
  | .zLdSpHl => Sys2Proof.Machine.execZLdSpHl s
  | .zJpCcNn cc nn => Sys2Proof.Machine.execZJpCcNn cc nn s
  | .zJpNn nn => Sys2Proof.Machine.execZJpNn nn s
  | .zOutNA n => Sys2Proof.Machine.execZOutNA n s
  | .zInAN n => Sys2Proof.Machine.execZInAN n s
  | .zExMemSpHl => Sys2Proof.Machine.execZExMemSpHl s
  | .zExDeHl => Sys2Proof.Machine.execZExDeHl s
  | .zDi => Sys2Proof.Machine.execZDi s
  | .zEi => Sys2Proof.Machine.execZEi s
  | .zCallCcNn cc nn => Sys2Proof.Machine.execZCallCcNn cc nn s
  | .zPushQq qq => Sys2Proof.Machine.execZPushQq qq s
  | .zCallNn nn => Sys2Proof.Machine.execZCallNn nn s
  | .zRst t => Sys2Proof.Machine.execZRst t s
  | .zRlcR r => Sys2Proof.Machine.execZRlcR r s
  | .zRlcMemHl => Sys2Proof.Machine.execZRlcMemHl s
  | .zRrcR r => Sys2Proof.Machine.execZRrcR r s
  | .zRrcMemHl => Sys2Proof.Machine.execZRrcMemHl s
  | .zRlR r => Sys2Proof.Machine.execZRlR r s
  | .zRlMemHl => Sys2Proof.Machine.execZRlMemHl s
  | .zRrR r => Sys2Proof.Machine.execZRrR r s
  | .zRrMemHl => Sys2Proof.Machine.execZRrMemHl s
  | .zSlaR r => Sys2Proof.Machine.execZSlaR r s
  | .zSlaMemHl => Sys2Proof.Machine.execZSlaMemHl s
  | .zSraR r => Sys2Proof.Machine.execZSraR r s
  | .zSraMemHl => Sys2Proof.Machine.execZSraMemHl s
  | .zSllR r => Sys2Proof.Machine.execZSllR r s
  | .zSllMemHl => Sys2Proof.Machine.execZSllMemHl s
  | .zSrlR r => Sys2Proof.Machine.execZSrlR r s
  | .zSrlMemHl => Sys2Proof.Machine.execZSrlMemHl s
  | .zBitBR b r => Sys2Proof.Machine.execZBitBR b r s
  | .zBitBMemHl b => Sys2Proof.Machine.execZBitBMemHl b s
  | .zResBR b r => Sys2Proof.Machine.execZResBR b r s
  | .zResBMemHl b => Sys2Proof.Machine.execZResBMemHl b s
  | .zSetBR b r => Sys2Proof.Machine.execZSetBR b r s
  | .zSetBMemHl b => Sys2Proof.Machine.execZSetBMemHl b s
  | .zInRC r => Sys2Proof.Machine.execZInRC r s
  | .zInFC => Sys2Proof.Machine.execZInFC s
  | .zOutCR r => Sys2Proof.Machine.execZOutCR r s
  | .zOutC0 => Sys2Proof.Machine.execZOutC0 s
  | .zSbcHlSs ss => Sys2Proof.Machine.execZSbcHlSs ss s
  | .zAdcHlSs ss => Sys2Proof.Machine.execZAdcHlSs ss s
  | .zLdMemNnDd dd nn => Sys2Proof.Machine.execZLdMemNnDd dd nn s
  | .zLdDdMemNn dd nn => Sys2Proof.Machine.execZLdDdMemNn dd nn s
  | .zNeg => Sys2Proof.Machine.execZNeg s
  | .zNegCopy y => Sys2Proof.Machine.execZNegCopy y s
  | .zRetn => Sys2Proof.Machine.execZRetn s
  | .zReti => Sys2Proof.Machine.execZReti s
  | .zRetnCopy y => Sys2Proof.Machine.execZRetnCopy y s
  | .zIm0 => Sys2Proof.Machine.execZIm0 s
  | .zIm1 => Sys2Proof.Machine.execZIm1 s
  | .zIm2 => Sys2Proof.Machine.execZIm2 s
  | .zIm0Copy4E => Sys2Proof.Machine.execZIm0Copy4E s
  | .zIm0Copy66 => Sys2Proof.Machine.execZIm0Copy66 s
  | .zIm0Copy6E => Sys2Proof.Machine.execZIm0Copy6E s
  | .zIm1Copy => Sys2Proof.Machine.execZIm1Copy s
  | .zIm2Copy => Sys2Proof.Machine.execZIm2Copy s
  | .zLdIA => Sys2Proof.Machine.execZLdIA s
  | .zLdRA => Sys2Proof.Machine.execZLdRA s
  | .zLdAI => Sys2Proof.Machine.execZLdAI s
  | .zLdAR => Sys2Proof.Machine.execZLdAR s
  | .zRrd => Sys2Proof.Machine.execZRrd s
  | .zRld => Sys2Proof.Machine.execZRld s
  | .zLdi => Sys2Proof.Machine.execZLdi s
  | .zCpi => Sys2Proof.Machine.execZCpi s
  | .zIni => Sys2Proof.Machine.execZIni s
  | .zOuti => Sys2Proof.Machine.execZOuti s
  | .zLdd => Sys2Proof.Machine.execZLdd s
  | .zCpd => Sys2Proof.Machine.execZCpd s
  | .zInd => Sys2Proof.Machine.execZInd s
  | .zOutd => Sys2Proof.Machine.execZOutd s
  | .zLdir => Sys2Proof.Machine.execZLdir s
  | .zCpir => Sys2Proof.Machine.execZCpir s
  | .zInir => Sys2Proof.Machine.execZInir s
  | .zOtir => Sys2Proof.Machine.execZOtir s
  | .zLddr => Sys2Proof.Machine.execZLddr s
  | .zCpdr => Sys2Proof.Machine.execZCpdr s
  | .zIndr => Sys2Proof.Machine.execZIndr s
  | .zOtdr => Sys2Proof.Machine.execZOtdr s
  | .zIllegalEd op => Sys2Proof.Machine.execZIllegalEd op s
  | .zAddXyPp xy pp => Sys2Proof.Machine.execZAddXyPp xy pp s
  | .zLdXyNn xy nn => Sys2Proof.Machine.execZLdXyNn xy nn s
  | .zLdMemNnXy xy nn => Sys2Proof.Machine.execZLdMemNnXy xy nn s
  | .zIncXy xy => Sys2Proof.Machine.execZIncXy xy s
  | .zIncXyHalf xy l => Sys2Proof.Machine.execZIncXyHalf xy l s
  | .zDecXyHalf xy l => Sys2Proof.Machine.execZDecXyHalf xy l s
  | .zLdXyHalfN xy l n => Sys2Proof.Machine.execZLdXyHalfN xy l n s
  | .zLdXyMemNn xy nn => Sys2Proof.Machine.execZLdXyMemNn xy nn s
  | .zDecXy xy => Sys2Proof.Machine.execZDecXy xy s
  | .zIncMemXy xy d => Sys2Proof.Machine.execZIncMemXy xy d s
  | .zDecMemXy xy d => Sys2Proof.Machine.execZDecMemXy xy d s
  | .zLdMemXyN xy d n => Sys2Proof.Machine.execZLdMemXyN xy d n s
  | .zLdRMemXy xy r d => Sys2Proof.Machine.execZLdRMemXy xy r d s
  | .zLdMemXyR xy r d => Sys2Proof.Machine.execZLdMemXyR xy r d s
  | .zLdXyHalfR xy l r' => Sys2Proof.Machine.execZLdXyHalfR xy l r' s
  | .zLdRXyHalf xy r l => Sys2Proof.Machine.execZLdRXyHalf xy r l s
  | .zAddAMemXy xy d => Sys2Proof.Machine.execZAddAMemXy xy d s
  | .zAddAXyHalf xy l => Sys2Proof.Machine.execZAddAXyHalf xy l s
  | .zAdcAMemXy xy d => Sys2Proof.Machine.execZAdcAMemXy xy d s
  | .zAdcAXyHalf xy l => Sys2Proof.Machine.execZAdcAXyHalf xy l s
  | .zSubMemXy xy d => Sys2Proof.Machine.execZSubMemXy xy d s
  | .zSubXyHalf xy l => Sys2Proof.Machine.execZSubXyHalf xy l s
  | .zSbcAMemXy xy d => Sys2Proof.Machine.execZSbcAMemXy xy d s
  | .zSbcAXyHalf xy l => Sys2Proof.Machine.execZSbcAXyHalf xy l s
  | .zAndMemXy xy d => Sys2Proof.Machine.execZAndMemXy xy d s
  | .zAndXyHalf xy l => Sys2Proof.Machine.execZAndXyHalf xy l s
  | .zXorMemXy xy d => Sys2Proof.Machine.execZXorMemXy xy d s
  | .zXorXyHalf xy l => Sys2Proof.Machine.execZXorXyHalf xy l s
  | .zOrMemXy xy d => Sys2Proof.Machine.execZOrMemXy xy d s
  | .zOrXyHalf xy l => Sys2Proof.Machine.execZOrXyHalf xy l s
  | .zCpMemXy xy d => Sys2Proof.Machine.execZCpMemXy xy d s
  | .zCpXyHalf xy l => Sys2Proof.Machine.execZCpXyHalf xy l s
  | .zPopXy xy => Sys2Proof.Machine.execZPopXy xy s
  | .zExMemSpXy xy => Sys2Proof.Machine.execZExMemSpXy xy s
  | .zPushXy xy => Sys2Proof.Machine.execZPushXy xy s
  | .zJpXy xy => Sys2Proof.Machine.execZJpXy xy s
  | .zLdSpXy xy => Sys2Proof.Machine.execZLdSpXy xy s
  | .zRlcMemXy xy d => Sys2Proof.Machine.execZRlcMemXy xy d s
  | .zRrcMemXy xy d => Sys2Proof.Machine.execZRrcMemXy xy d s
  | .zRlMemXy xy d => Sys2Proof.Machine.execZRlMemXy xy d s
  | .zRrMemXy xy d => Sys2Proof.Machine.execZRrMemXy xy d s
  | .zSlaMemXy xy d => Sys2Proof.Machine.execZSlaMemXy xy d s
  | .zSraMemXy xy d => Sys2Proof.Machine.execZSraMemXy xy d s
  | .zSllMemXy xy d => Sys2Proof.Machine.execZSllMemXy xy d s
  | .zSrlMemXy xy d => Sys2Proof.Machine.execZSrlMemXy xy d s
  | .zRotMemXyR xy d rot r => Sys2Proof.Machine.execZRotMemXyR xy d rot r s
  | .zBitBMemXy xy d b => Sys2Proof.Machine.execZBitBMemXy xy d b s
  | .zBitBMemXyZ xy d b z => Sys2Proof.Machine.execZBitBMemXyZ xy d b z s
  | .zResBMemXy xy d b => Sys2Proof.Machine.execZResBMemXy xy d b s
  | .zResBMemXyR xy d b r => Sys2Proof.Machine.execZResBMemXyR xy d b r s
  | .zSetBMemXy xy d b => Sys2Proof.Machine.execZSetBMemXy xy d b s
  | .zSetBMemXyR xy d b r => Sys2Proof.Machine.execZSetBMemXyR xy d b r s
  | .zPrefix xy next => Sys2Proof.Machine.execZPrefix xy next s
  | .zPrefixPrefix xy nextXy => Sys2Proof.Machine.execZPrefixPrefix xy nextXy s
  | .mBrk => Sys2Proof.Machine.execMBrk s
  | .mOraIzx b => Sys2Proof.Machine.execMOraIzx b s
  | .mOraZp b => Sys2Proof.Machine.execMOraZp b s
  | .mAslZp b => Sys2Proof.Machine.execMAslZp b s
  | .mPhp => Sys2Proof.Machine.execMPhp s
  | .mOraImm b => Sys2Proof.Machine.execMOraImm b s
  | .mAslA => Sys2Proof.Machine.execMAslA s
  | .mOraAbs addr => Sys2Proof.Machine.execMOraAbs addr s
  | .mAslAbs addr => Sys2Proof.Machine.execMAslAbs addr s
  | .mBpl b => Sys2Proof.Machine.execMBpl b s
  | .mOraIzy b => Sys2Proof.Machine.execMOraIzy b s
  | .mOraZpX b => Sys2Proof.Machine.execMOraZpX b s
  | .mAslZpX b => Sys2Proof.Machine.execMAslZpX b s
  | .mClc => Sys2Proof.Machine.execMClc s
  | .mOraAbsY addr => Sys2Proof.Machine.execMOraAbsY addr s
  | .mOraAbsX addr => Sys2Proof.Machine.execMOraAbsX addr s
  | .mAslAbsX addr => Sys2Proof.Machine.execMAslAbsX addr s
  | .mJsr addr => Sys2Proof.Machine.execMJsr addr s
  | .mAndIzx b => Sys2Proof.Machine.execMAndIzx b s
  | .mBitZp b => Sys2Proof.Machine.execMBitZp b s
  | .mAndZp b => Sys2Proof.Machine.execMAndZp b s
  | .mRolZp b => Sys2Proof.Machine.execMRolZp b s
  | .mPlp => Sys2Proof.Machine.execMPlp s
  | .mAndImm b => Sys2Proof.Machine.execMAndImm b s
  | .mRolA => Sys2Proof.Machine.execMRolA s
  | .mBitAbs addr => Sys2Proof.Machine.execMBitAbs addr s
  | .mAndAbs addr => Sys2Proof.Machine.execMAndAbs addr s
  | .mRolAbs addr => Sys2Proof.Machine.execMRolAbs addr s
  | .mBmi b => Sys2Proof.Machine.execMBmi b s
  | .mAndIzy b => Sys2Proof.Machine.execMAndIzy b s
  | .mAndZpX b => Sys2Proof.Machine.execMAndZpX b s
  | .mRolZpX b => Sys2Proof.Machine.execMRolZpX b s
  | .mSec => Sys2Proof.Machine.execMSec s
  | .mAndAbsY addr => Sys2Proof.Machine.execMAndAbsY addr s
  | .mAndAbsX addr => Sys2Proof.Machine.execMAndAbsX addr s
  | .mRolAbsX addr => Sys2Proof.Machine.execMRolAbsX addr s
  | .mRti => Sys2Proof.Machine.execMRti s
  | .mEorIzx b => Sys2Proof.Machine.execMEorIzx b s
  | .mEorZp b => Sys2Proof.Machine.execMEorZp b s
  | .mLsrZp b => Sys2Proof.Machine.execMLsrZp b s
  | .mPha => Sys2Proof.Machine.execMPha s
  | .mEorImm b => Sys2Proof.Machine.execMEorImm b s
  | .mLsrA => Sys2Proof.Machine.execMLsrA s
  | .mJmpAbs addr => Sys2Proof.Machine.execMJmpAbs addr s
  | .mEorAbs addr => Sys2Proof.Machine.execMEorAbs addr s
  | .mLsrAbs addr => Sys2Proof.Machine.execMLsrAbs addr s
  | .mBvc b => Sys2Proof.Machine.execMBvc b s
  | .mEorIzy b => Sys2Proof.Machine.execMEorIzy b s
  | .mEorZpX b => Sys2Proof.Machine.execMEorZpX b s
  | .mLsrZpX b => Sys2Proof.Machine.execMLsrZpX b s
  | .mCli => Sys2Proof.Machine.execMCli s
  | .mEorAbsY addr => Sys2Proof.Machine.execMEorAbsY addr s
  | .mEorAbsX addr => Sys2Proof.Machine.execMEorAbsX addr s
  | .mLsrAbsX addr => Sys2Proof.Machine.execMLsrAbsX addr s
  | .mRts => Sys2Proof.Machine.execMRts s
  | .mAdcIzx b => Sys2Proof.Machine.execMAdcIzx b s
  | .mAdcZp b => Sys2Proof.Machine.execMAdcZp b s
  | .mRorZp b => Sys2Proof.Machine.execMRorZp b s
  | .mPla => Sys2Proof.Machine.execMPla s
  | .mAdcImm b => Sys2Proof.Machine.execMAdcImm b s
  | .mRorA => Sys2Proof.Machine.execMRorA s
  | .mJmpInd addr => Sys2Proof.Machine.execMJmpInd addr s
  | .mAdcAbs addr => Sys2Proof.Machine.execMAdcAbs addr s
  | .mRorAbs addr => Sys2Proof.Machine.execMRorAbs addr s
  | .mBvs b => Sys2Proof.Machine.execMBvs b s
  | .mAdcIzy b => Sys2Proof.Machine.execMAdcIzy b s
  | .mAdcZpX b => Sys2Proof.Machine.execMAdcZpX b s
  | .mRorZpX b => Sys2Proof.Machine.execMRorZpX b s
  | .mSei => Sys2Proof.Machine.execMSei s
  | .mAdcAbsY addr => Sys2Proof.Machine.execMAdcAbsY addr s
  | .mAdcAbsX addr => Sys2Proof.Machine.execMAdcAbsX addr s
  | .mRorAbsX addr => Sys2Proof.Machine.execMRorAbsX addr s
  | .mStaIzx b => Sys2Proof.Machine.execMStaIzx b s
  | .mStyZp b => Sys2Proof.Machine.execMStyZp b s
  | .mStaZp b => Sys2Proof.Machine.execMStaZp b s
  | .mStxZp b => Sys2Proof.Machine.execMStxZp b s
  | .mDey => Sys2Proof.Machine.execMDey s
  | .mTxa => Sys2Proof.Machine.execMTxa s
  | .mStyAbs addr => Sys2Proof.Machine.execMStyAbs addr s
  | .mStaAbs addr => Sys2Proof.Machine.execMStaAbs addr s
  | .mStxAbs addr => Sys2Proof.Machine.execMStxAbs addr s
  | .mBcc b => Sys2Proof.Machine.execMBcc b s
  | .mStaIzy b => Sys2Proof.Machine.execMStaIzy b s
  | .mStyZpX b => Sys2Proof.Machine.execMStyZpX b s
  | .mStaZpX b => Sys2Proof.Machine.execMStaZpX b s
  | .mStxZpY b => Sys2Proof.Machine.execMStxZpY b s
  | .mTya => Sys2Proof.Machine.execMTya s
  | .mStaAbsY addr => Sys2Proof.Machine.execMStaAbsY addr s
  | .mTxs => Sys2Proof.Machine.execMTxs s
  | .mStaAbsX addr => Sys2Proof.Machine.execMStaAbsX addr s
  | .mLdyImm b => Sys2Proof.Machine.execMLdyImm b s
  | .mLdaIzx b => Sys2Proof.Machine.execMLdaIzx b s
  | .mLdxImm b => Sys2Proof.Machine.execMLdxImm b s
  | .mLdyZp b => Sys2Proof.Machine.execMLdyZp b s
  | .mLdaZp b => Sys2Proof.Machine.execMLdaZp b s
  | .mLdxZp b => Sys2Proof.Machine.execMLdxZp b s
  | .mTay => Sys2Proof.Machine.execMTay s
  | .mLdaImm b => Sys2Proof.Machine.execMLdaImm b s
  | .mTax => Sys2Proof.Machine.execMTax s
  | .mLdyAbs addr => Sys2Proof.Machine.execMLdyAbs addr s
  | .mLdaAbs addr => Sys2Proof.Machine.execMLdaAbs addr s
  | .mLdxAbs addr => Sys2Proof.Machine.execMLdxAbs addr s
  | .mBcs b => Sys2Proof.Machine.execMBcs b s
  | .mLdaIzy b => Sys2Proof.Machine.execMLdaIzy b s
  | .mLdyZpX b => Sys2Proof.Machine.execMLdyZpX b s
  | .mLdaZpX b => Sys2Proof.Machine.execMLdaZpX b s
  | .mLdxZpY b => Sys2Proof.Machine.execMLdxZpY b s
  | .mClv => Sys2Proof.Machine.execMClv s
  | .mLdaAbsY addr => Sys2Proof.Machine.execMLdaAbsY addr s
  | .mTsx => Sys2Proof.Machine.execMTsx s
  | .mLdyAbsX addr => Sys2Proof.Machine.execMLdyAbsX addr s
  | .mLdaAbsX addr => Sys2Proof.Machine.execMLdaAbsX addr s
  | .mLdxAbsY addr => Sys2Proof.Machine.execMLdxAbsY addr s
  | .mCpyImm b => Sys2Proof.Machine.execMCpyImm b s
  | .mCmpIzx b => Sys2Proof.Machine.execMCmpIzx b s
  | .mCpyZp b => Sys2Proof.Machine.execMCpyZp b s
  | .mCmpZp b => Sys2Proof.Machine.execMCmpZp b s
  | .mDecZp b => Sys2Proof.Machine.execMDecZp b s
  | .mIny => Sys2Proof.Machine.execMIny s
  | .mCmpImm b => Sys2Proof.Machine.execMCmpImm b s
  | .mDex => Sys2Proof.Machine.execMDex s
  | .mCpyAbs addr => Sys2Proof.Machine.execMCpyAbs addr s
  | .mCmpAbs addr => Sys2Proof.Machine.execMCmpAbs addr s
  | .mDecAbs addr => Sys2Proof.Machine.execMDecAbs addr s
  | .mBne b => Sys2Proof.Machine.execMBne b s
  | .mCmpIzy b => Sys2Proof.Machine.execMCmpIzy b s
  | .mCmpZpX b => Sys2Proof.Machine.execMCmpZpX b s
  | .mDecZpX b => Sys2Proof.Machine.execMDecZpX b s
  | .mCld => Sys2Proof.Machine.execMCld s
  | .mCmpAbsY addr => Sys2Proof.Machine.execMCmpAbsY addr s
  | .mCmpAbsX addr => Sys2Proof.Machine.execMCmpAbsX addr s
  | .mDecAbsX addr => Sys2Proof.Machine.execMDecAbsX addr s
  | .mCpxImm b => Sys2Proof.Machine.execMCpxImm b s
  | .mSbcIzx b => Sys2Proof.Machine.execMSbcIzx b s
  | .mCpxZp b => Sys2Proof.Machine.execMCpxZp b s
  | .mSbcZp b => Sys2Proof.Machine.execMSbcZp b s
  | .mIncZp b => Sys2Proof.Machine.execMIncZp b s
  | .mInx => Sys2Proof.Machine.execMInx s
  | .mSbcImm b => Sys2Proof.Machine.execMSbcImm b s
  | .mNop => Sys2Proof.Machine.execMNop s
  | .mCpxAbs addr => Sys2Proof.Machine.execMCpxAbs addr s
  | .mSbcAbs addr => Sys2Proof.Machine.execMSbcAbs addr s
  | .mIncAbs addr => Sys2Proof.Machine.execMIncAbs addr s
  | .mBeq b => Sys2Proof.Machine.execMBeq b s
  | .mSbcIzy b => Sys2Proof.Machine.execMSbcIzy b s
  | .mSbcZpX b => Sys2Proof.Machine.execMSbcZpX b s
  | .mIncZpX b => Sys2Proof.Machine.execMIncZpX b s
  | .mSed => Sys2Proof.Machine.execMSed s
  | .mSbcAbsY addr => Sys2Proof.Machine.execMSbcAbsY addr s
  | .mSbcAbsX addr => Sys2Proof.Machine.execMSbcAbsX addr s
  | .mIncAbsX addr => Sys2Proof.Machine.execMIncAbsX addr s
  | .mIllegal op => Sys2Proof.Machine.execMIllegal op s

end Sys2Proof.Machine
end

