-- ==== Sys2Proof/Machine/Cycles.lean ====
section
/-! DEFINITION. The cost table lookup (spec/70_reset_and_hazards.md R930 to R936, R938), the class of an encoding
(spec/45_z80_undoc.md R500), and how many opcode bytes advance `R` (spec/10_state.md R40). -/
namespace Sys2Proof

/-- Class 2 of R500: undocumented with a meaning (R503 to R509); the ignored prefixes stand apart (R502, R511). -/
def Instr.isUndocumented : Instr → Bool
  | .zSllR .. => true
  | .zSllMemHl => true
  | .zInFC => true
  | .zOutC0 => true
  | .zNegCopy .. => true
  | .zRetnCopy .. => true
  | .zIm0Copy4E => true
  | .zIm0Copy66 => true
  | .zIm0Copy6E => true
  | .zIm1Copy => true
  | .zIm2Copy => true
  | .zIncXyHalf .. => true
  | .zDecXyHalf .. => true
  | .zLdXyHalfN .. => true
  | .zLdXyHalfR .. => true
  | .zLdRXyHalf .. => true
  | .zAddAXyHalf .. => true
  | .zAdcAXyHalf .. => true
  | .zSubXyHalf .. => true
  | .zSbcAXyHalf .. => true
  | .zAndXyHalf .. => true
  | .zXorXyHalf .. => true
  | .zOrXyHalf .. => true
  | .zCpXyHalf .. => true
  | .zSllMemXy .. => true
  | .zRotMemXyR .. => true
  | .zBitBMemXyZ .. => true
  | .zResBMemXyR .. => true
  | .zSetBMemXyR .. => true
  | _ => false

/-- Whether an encoding goes to the illegal-opcode policy of the Z80 (R184, R500, R510). -/
def illegalUnder (cfg : Config) (i : Instr) : Bool :=
  match i with
  | .zIllegalEd _ => true
  | _ => i.isUndocumented && !cfg.z80Undoc

/-- Entry `op` of a page of the cost table. -/
def costAt (page : List Nat) (op : Byte) : Nat := page.getD op.toNat 0

/-- The cost of a Z80 byte string by its page (R930 to R934). -/
def pageCost (t : CycTables) (bytes : List Byte) : Nat :=
  match bytes with
  | [] => 0
  | b0 :: rest =>
    if b0 = 0xCB then costAt t.cb (rest.getD 0 0)
    else if b0 = 0xED then costAt t.ed (rest.getD 0 0)
    else if b0 = 0xDD ∨ b0 = 0xFD then
      if rest.getD 0 0 = 0xCB then costAt t.xycb (rest.getD 2 0) else costAt t.xy (rest.getD 0 0)
    else costAt t.main b0

/-- The table value of a Z80 instruction on the path that is not taken and does not repeat (R930 to R934, R821, R502). -/
def costZ80 (cfg : Config) (i : Instr) : Nat :=
  if i.isPrefix then cfg.cyc.ignoredPrefix
  else if illegalUnder cfg i then cfg.cyc.z80Illegal
  else pageCost cfg.cyc (encode i)

/-- The table value of a 6502 instruction on the path that is not taken and crosses no page (R936, R822). -/
def costM6502 (cfg : Config) (i : Instr) : Nat :=
  match i with
  | .mIllegal _ => cfg.cyc.m6502Illegal
  | _ => costAt cfg.cyc.m6502 ((encode i).getD 0 0)

/-- How many opcode bytes of an instruction advance `R`: one, two with a prefix, one for an ignored prefix (R40). -/
def opcodeBytes (i : Instr) : Byte :=
  if i.isPrefix then 1
  else
    match encode i with
    | [] => 0
    | b0 :: _ => if b0 = 0xCB ∨ b0 = 0xED ∨ b0 = 0xDD ∨ b0 = 0xFD then 2 else 1

end Sys2Proof
end

