-- ==== Sys2Proof/Machine/Fetch.lean ====
section
/-! DEFINITION. Fetching an instruction byte by byte through the memory hook (spec/20_memory.md R132, spec/30_encoding.md R183), what
happens between the fetch and the meaning (spec/60_exceptions.md R829, R842), and the placing of an instruction where it is fetched. -/
namespace Sys2Proof.Machine

/-- Reads bytes from `pc` on, at most `fuel` more of them, until they hold an instruction. `bytes` are those already read. For an
ignored prefix the last byte read is the look-ahead byte; it is read again as the start of the next instruction (log 10). -/
def fetchFrom (cpu : Cpu) (pc : Word) : Nat → List Byte → State → Option Instr × State
  | 0, _, s => (none, s)
  | fuel + 1, bytes, s =>
    let r := memRead (pc + BitVec.ofNat 16 bytes.length) s
    match decode cpu (bytes ++ [r.1]) with
    | .ok i => (some i, r.2)
    | .error _ => fetchFrom cpu pc fuel (bytes ++ [r.1]) r.2

/-- The program counter of the configured variant. -/
def State.pc (s : State) : Word :=
  match s.cfg.cpu with
  | .z80 => s.z.pc
  | .m6502 => s.m.pc

/-- Fetches and decodes the instruction at the program counter. -/
def fetch (s : State) : Option Instr × State := fetchFrom s.cfg.cpu s.pc 4 [] s

/-- What stands between the fetch and the meaning on the Z80: `PC` past the bytes, `R` advanced, the cost charged (R829). -/
def beginZ (i : Instr) (s : State) : State :=
  cycZ (costZ80 s.cfg i) (s.onZ fun z =>
    { z with pc := z.pc + BitVec.ofNat 16 i.size, r := advanceR (opcodeBytes i) z.r })

/-- What stands between the fetch and the meaning on the 6502: `PC` past the bytes, the cost charged (R842). -/
def beginM (i : Instr) (s : State) : State :=
  cycM (costM6502 s.cfg i) (s.onM fun m => { m with pc := m.pc + BitVec.ofNat 16 i.size })

/-- Writes bytes into RAM from address `a` on. -/
def storeBytes : Word → List Byte → List Host.Cell → List Host.Cell
  | _, [], mem => mem
  | a, v :: rest, mem => storeBytes (a + 1) rest (Memory.write mem a.toNat v)

/-- Routes that make the four addresses from `a` on plain RAM. -/
def ramAt (a : Word) : List Route :=
  [⟨0xFFFF, a, .ram⟩, ⟨0xFFFF, a + 1, .ram⟩, ⟨0xFFFF, a + 2, .ram⟩, ⟨0xFFFF, a + 3, .ram⟩]

/-- The state in which the very next step runs the instruction of the table word `w` of `nbits` bits: the CPU variant whose row it
is, its bytes in plain RAM at the program counter, `Execute` in its loop with budget left, no halt. DESIGN CHOICE, log 14. -/
def placeWord (s : State) (nbits w : Nat) : State :=
  let s1 := { s with cfg := { s.cfg with cpu := ((tableChoice nbits w).map Prod.fst).getD s.cfg.cpu } }
  { s1 with
    cfg := { s1.cfg with memMap := ramAt s1.pc ++ s1.cfg.memMap }
    mem := storeBytes s1.pc (wordBytes w) s1.mem
    phase := .execLoop
    quota := max s1.quota (s1.m.cycLine + 1)
    z := { s1.z with icount := max s1.z.icount 1, halted := false } }

end Sys2Proof.Machine
end

