-- ==== Sys2Proof/Machine/Execute.lean ====
section
/-! DEFINITION. `Execute` of both CPU variants, one instruction or sample point at a time (spec/60_exceptions.md R828 to R831, R838,
R842 to R844, R857). -/
namespace Sys2Proof.Machine

/-- What the driver does after `Execute`: the other half of the iteration when it comes second (R827), else its next turn. -/
def afterExecute (cfg : Config) (inTurn : Bool) : Phase :=
  match cfg.order, inTurn with
  | .cpuThenVdp, true => .scanline
  | _, _ => .iterStart

/-- `Execute` returns `(PC, false)` (R828, R842). -/
def endExecute (s : State) : State := { s with phase := afterExecute s.cfg s.inTurn }.emit (.executed s.pc false)

/-- `Execute` returns `(PC, true)` and the driver leaves its loop (R827, R857). -/
def stopExecute (s : State) : State := { s with phase := .stopped }.emit (.executed s.pc true)

/-- Goes on with `k` after a sample point, or stops (R830, R842). -/
def atSample (a : Accepted) (k : State → State) : Result :=
  match a with
  | .ok s => .next (k s)
  | .stop s => .next (stopExecute s)
  | .refused => .refused .im0VectorNotRst

/-- Whether an instruction is `EI`, which keeps the grace window open (R829, R838). -/
def isEi : Instr → Bool
  | .zEi => true
  | _ => false

/-- The end of the grace window: the saved budget comes back, less one (R829, R838). -/
def closeWindow (s : State) : State :=
  s.onZ fun z => { z with grace := false, icount := z.icount + z.ibackup - 1, ibackup := 0 }

/-- The end of the grace window and its sample point (R829, R830). -/
def graceEnd (s : State) : Result :=
  if s.cfg.sampleAtGraceEnd then atSample (acceptZ (closeWindow s)) id else .next (closeWindow s)

/-- What follows the meaning of an instruction on the Z80: the end of the grace window when it was open and the instruction is no
`EI` (R829). -/
def finishZ (window : Bool) (i : Instr) (r : Result) : Result :=
  match r with
  | .next s => if window && !isEi i then graceEnd s else .next s
  | .fault f => .fault f
  | .refused q => .refused q

/-- `Step()` of the Z80 variant (R829). -/
def stepZ80 (s : State) : Result :=
  if s.z.halted then .next (s.onZ fun z => { z with icount := if 0 < z.icount then 0 else z.icount })
  else
    match fetch s with
    | (some i, s1) => finishZ s.z.grace i (exec i (beginZ i s1))
    | (none, _) => .fault .undecoded

/-- One instruction of the 6502 variant (R842). -/
def stepM6502 (s : State) : Result :=
  match fetch s with
  | (some i, s1) => exec i (beginM i s1)
  | (none, _) => .fault .undecoded

/-- How the platform answers the call of `PollHook` at hand: the next scripted reply, or a free one (R843, log 17). -/
def takePoll (s : State) : PollReply × State :=
  match s.polls with
  | r :: rest => (r, { s with polls := rest })
  | [] => (Config.pollReply s.tick, { s with tick := s.tick + 1 })

/-- `Inject(PollHook())`, after what the platform calls of the core meanwhile (R842, R843, U12). -/
def poll (s : State) : State :=
  let r := takePoll s
  inject r.1.answer ((runCalls r.1.calls r.2).emit (.polled r.1.answer))

/-- Entry to `Execute`, up to and with the entry sample point (steps 1 and 2 of R828 and R842). -/
def executeEntry (s : State) : Result :=
  match s.cfg.cpu with
  | .z80 => atSample (acceptZ s) fun t => { t with phase := .execLoop }.onZ fun z => { z with icount := z.icount + s.quota }
  | .m6502 => atSample (acceptM (s.onM fun m => { m with cycLine := 0 })) fun t => { t with phase := .execLoop }

/-- One turn of the loop of `Execute`: an instruction while budget is left, else the end sample point (R828, R842). -/
def executeLoop (s : State) : Result :=
  match s.cfg.cpu with
  | .z80 => if 0 < s.z.icount then stepZ80 s else atSample (acceptZ s) endExecute
  | .m6502 => if s.m.cycLine < s.quota then stepM6502 s else atSample (acceptM (poll s)) endExecute

end Sys2Proof.Machine
end

