-- ==== Sys2Proof/Machine/Step.lean ====
section
/-! DEFINITION. One step of the machine, and the placing of an instruction where the next step fetches it. -/
namespace Sys2Proof.Machine

/-- One step: the driver's iteration cut at the points where `Execute` performs an instruction or samples a request, and where
`StepScanline` is called (spec/60_exceptions.md R827, R828, R842; log 11). -/
def step (s : State) : Host.Outcome State Fault Refusal :=
  match s.phase with
  | .iterStart => .next (startIteration s)
  | .execEntry => executeEntry s
  | .execLoop => executeLoop s
  | .scanline => .next (scanlineHalf s)
  | .stopped => .next (whileStopped s)

/-- The state whose next step fetches and runs the instruction of a numbered word of spec/opcode_table.json (log 14). -/
def State.withFetchWord (s : State) (nbits w : Nat) : State := placeWord s nbits w

end Sys2Proof.Machine
end

