-- ==== Sys2Proof/Machine/Footprint.lean ====
section
/-! DEFINITION. What each instruction may change, read from its rule: the CPU variant it belongs to, whether it
accesses ports, the memory addresses it stores to, the flag bits it leaves alone. The statements about every instruction are written with these tables. -/
namespace Sys2Proof

/-- The CPU variant an instruction belongs to (spec/30_encoding.md R170, R200). -/
def Instr.cpu : Instr → Cpu
  | .mOraIzx .. => .m6502
  | .mOraZp .. => .m6502
  | .mAslZp .. => .m6502
  | .mOraImm .. => .m6502
  | .mOraAbs .. => .m6502
  | .mAslAbs .. => .m6502
  | .mBpl .. => .m6502
  | .mOraIzy .. => .m6502
  | .mOraZpX .. => .m6502
  | .mAslZpX .. => .m6502
  | .mOraAbsY .. => .m6502
  | .mOraAbsX .. => .m6502
  | .mAslAbsX .. => .m6502
  | .mJsr .. => .m6502
  | .mAndIzx .. => .m6502
  | .mBitZp .. => .m6502
  | .mAndZp .. => .m6502
  | .mRolZp .. => .m6502
  | .mAndImm .. => .m6502
  | .mBitAbs .. => .m6502
  | .mAndAbs .. => .m6502
  | .mRolAbs .. => .m6502
  | .mBmi .. => .m6502
  | .mAndIzy .. => .m6502
  | .mAndZpX .. => .m6502
  | .mRolZpX .. => .m6502
  | .mAndAbsY .. => .m6502
  | .mAndAbsX .. => .m6502
  | .mRolAbsX .. => .m6502
  | .mEorIzx .. => .m6502
  | .mEorZp .. => .m6502
  | .mLsrZp .. => .m6502
  | .mEorImm .. => .m6502
  | .mJmpAbs .. => .m6502
  | .mEorAbs .. => .m6502
  | .mLsrAbs .. => .m6502
  | .mBvc .. => .m6502
  | .mEorIzy .. => .m6502
  | .mEorZpX .. => .m6502
  | .mLsrZpX .. => .m6502
  | .mEorAbsY .. => .m6502
  | .mEorAbsX .. => .m6502
  | .mLsrAbsX .. => .m6502
  | .mAdcIzx .. => .m6502
  | .mAdcZp .. => .m6502
  | .mRorZp .. => .m6502
  | .mAdcImm .. => .m6502
  | .mJmpInd .. => .m6502
  | .mAdcAbs .. => .m6502
  | .mRorAbs .. => .m6502
  | .mBvs .. => .m6502
  | .mAdcIzy .. => .m6502
  | .mAdcZpX .. => .m6502
  | .mRorZpX .. => .m6502
  | .mAdcAbsY .. => .m6502
  | .mAdcAbsX .. => .m6502
  | .mRorAbsX .. => .m6502
  | .mStaIzx .. => .m6502
  | .mStyZp .. => .m6502
  | .mStaZp .. => .m6502
  | .mStxZp .. => .m6502
  | .mStyAbs .. => .m6502
  | .mStaAbs .. => .m6502
  | .mStxAbs .. => .m6502
  | .mBcc .. => .m6502
  | .mStaIzy .. => .m6502
  | .mStyZpX .. => .m6502
  | .mStaZpX .. => .m6502
  | .mStxZpY .. => .m6502
  | .mStaAbsY .. => .m6502
  | .mStaAbsX .. => .m6502
  | .mLdyImm .. => .m6502
  | .mLdaIzx .. => .m6502
  | .mLdxImm .. => .m6502
  | .mLdyZp .. => .m6502
  | .mLdaZp .. => .m6502
  | .mLdxZp .. => .m6502
  | .mLdaImm .. => .m6502
  | .mLdyAbs .. => .m6502
  | .mLdaAbs .. => .m6502
  | .mLdxAbs .. => .m6502
  | .mBcs .. => .m6502
  | .mLdaIzy .. => .m6502
  | .mLdyZpX .. => .m6502
  | .mLdaZpX .. => .m6502
  | .mLdxZpY .. => .m6502
  | .mLdaAbsY .. => .m6502
  | .mLdyAbsX .. => .m6502
  | .mLdaAbsX .. => .m6502
  | .mLdxAbsY .. => .m6502
  | .mCpyImm .. => .m6502
  | .mCmpIzx .. => .m6502
  | .mCpyZp .. => .m6502
  | .mCmpZp .. => .m6502
  | .mDecZp .. => .m6502
  | .mCmpImm .. => .m6502
  | .mCpyAbs .. => .m6502
  | .mCmpAbs .. => .m6502
  | .mDecAbs .. => .m6502
  | .mBne .. => .m6502
  | .mCmpIzy .. => .m6502
  | .mCmpZpX .. => .m6502
  | .mDecZpX .. => .m6502
  | .mCmpAbsY .. => .m6502
  | .mCmpAbsX .. => .m6502
  | .mDecAbsX .. => .m6502
  | .mCpxImm .. => .m6502
  | .mSbcIzx .. => .m6502
  | .mCpxZp .. => .m6502
  | .mSbcZp .. => .m6502
  | .mIncZp .. => .m6502
  | .mSbcImm .. => .m6502
  | .mCpxAbs .. => .m6502
  | .mSbcAbs .. => .m6502
  | .mIncAbs .. => .m6502
  | .mBeq .. => .m6502
  | .mSbcIzy .. => .m6502
  | .mSbcZpX .. => .m6502
  | .mIncZpX .. => .m6502
  | .mSbcAbsY .. => .m6502
  | .mSbcAbsX .. => .m6502
  | .mIncAbsX .. => .m6502
  | .mIllegal .. => .m6502
  | .mBrk => .m6502
  | .mPhp => .m6502
  | .mAslA => .m6502
  | .mClc => .m6502
  | .mPlp => .m6502
  | .mRolA => .m6502
  | .mSec => .m6502
  | .mRti => .m6502
  | .mPha => .m6502
  | .mLsrA => .m6502
  | .mCli => .m6502
  | .mRts => .m6502
  | .mPla => .m6502
  | .mRorA => .m6502
  | .mSei => .m6502
  | .mDey => .m6502
  | .mTxa => .m6502
  | .mTya => .m6502
  | .mTxs => .m6502
  | .mTay => .m6502
  | .mTax => .m6502
  | .mClv => .m6502
  | .mTsx => .m6502
  | .mIny => .m6502
  | .mDex => .m6502
  | .mCld => .m6502
  | .mInx => .m6502
  | .mNop => .m6502
  | .mSed => .m6502
  | _ => .z80

/-- Whether an instruction's rule names `PortIn` or `PortOut` (R459 to R470, R508, R509). -/
def Instr.usesPorts : Instr → Bool
  | .zInAN .. => true
  | .zOutNA .. => true
  | .zInRC .. => true
  | .zOutCR .. => true
  | .zInFC => true
  | .zOutC0 => true
  | .zIni => true
  | .zInd => true
  | .zInir => true
  | .zIndr => true
  | .zOuti => true
  | .zOutd => true
  | .zOtir => true
  | .zOtdr => true
  | _ => false

namespace Machine

/-- The two addresses a push of a word stores to from `sp` down (R136). -/
def pushedAt (sp : Word) : List Word := [sp - 1, sp - 2]

/-- The addresses an instruction stores to when it runs in `s`, each computed as its rule says (spec/40_z80_load.md to
spec/47_m6502_b.md). An instruction not named stores nothing. -/
def storedAt (i : Instr) (s : State) : List Word :=
  match i with
  | .zLdMemBcA => [s.z.bc]
  | .zLdMemDeA => [s.z.de]
  | .zLdMemNnHl nn => [nn, nn + 1]
  | .zLdMemNnDd _ nn => [nn, nn + 1]
  | .zLdMemNnXy _ nn => [nn, nn + 1]
  | .zLdMemNnA nn => [nn]
  | .zLdMemHlN _ => [s.z.hl]
  | .zLdMemHlR _ => [s.z.hl]
  | .zIncMemHl => [s.z.hl]
  | .zDecMemHl => [s.z.hl]
  | .zRlcMemHl => [s.z.hl]
  | .zRrcMemHl => [s.z.hl]
  | .zRlMemHl => [s.z.hl]
  | .zRrMemHl => [s.z.hl]
  | .zSlaMemHl => [s.z.hl]
  | .zSraMemHl => [s.z.hl]
  | .zSrlMemHl => [s.z.hl]
  | .zResBMemHl _ => [s.z.hl]
  | .zSetBMemHl _ => [s.z.hl]
  | .zRrd => [s.z.hl]
  | .zRld => [s.z.hl]
  | .zIni => [s.z.hl]
  | .zInir => [s.z.hl]
  | .zInd => [s.z.hl]
  | .zIndr => [s.z.hl]
  | .zSllMemHl => if s.cfg.z80Undoc then [s.z.hl] else []
  | .zLdMemXyN xy d _ => [s.z.ea xy d]
  | .zLdMemXyR xy _ d => [s.z.ea xy d]
  | .zIncMemXy xy d => [s.z.ea xy d]
  | .zDecMemXy xy d => [s.z.ea xy d]
  | .zRlcMemXy xy d => [s.z.ea xy d]
  | .zRrcMemXy xy d => [s.z.ea xy d]
  | .zRlMemXy xy d => [s.z.ea xy d]
  | .zRrMemXy xy d => [s.z.ea xy d]
  | .zSlaMemXy xy d => [s.z.ea xy d]
  | .zSraMemXy xy d => [s.z.ea xy d]
  | .zSrlMemXy xy d => [s.z.ea xy d]
  | .zResBMemXy xy d _ => [s.z.ea xy d]
  | .zSetBMemXy xy d _ => [s.z.ea xy d]
  | .zSllMemXy xy d => if s.cfg.z80Undoc then [s.z.ea xy d] else []
  | .zRotMemXyR xy d _ _ => if s.cfg.z80Undoc then [s.z.ea xy d] else []
  | .zResBMemXyR xy d _ _ => if s.cfg.z80Undoc then [s.z.ea xy d] else []
  | .zSetBMemXyR xy d _ _ => if s.cfg.z80Undoc then [s.z.ea xy d] else []
  | .zPushQq _ => pushedAt s.z.sp
  | .zPushXy _ => pushedAt s.z.sp
  | .zCallNn _ => pushedAt s.z.sp
  | .zRst _ => pushedAt s.z.sp
  | .zCallCcNn cc _ => if holds8 cc s.z.f then pushedAt s.z.sp else []
  | .zExMemSpHl => [s.z.sp, s.z.sp + 1]
  | .zExMemSpXy _ => [s.z.sp, s.z.sp + 1]
  | .zLdi => [s.z.de]
  | .zLdir => [s.z.de]
  | .zLdd => [s.z.de]
  | .zLddr => [s.z.de]
  | .mAslZp b => [(addressOf (.zp b) s).1.2]
  | .mAslAbs addr => [(addressOf (.abs addr) s).1.2]
  | .mAslZpX b => [(addressOf (.zpx b) s).1.2]
  | .mAslAbsX addr => [(addressOf (.abx addr) s).1.2]
  | .mRolZp b => [(addressOf (.zp b) s).1.2]
  | .mRolAbs addr => [(addressOf (.abs addr) s).1.2]
  | .mRolZpX b => [(addressOf (.zpx b) s).1.2]
  | .mRolAbsX addr => [(addressOf (.abx addr) s).1.2]
  | .mLsrZp b => [(addressOf (.zp b) s).1.2]
  | .mLsrAbs addr => [(addressOf (.abs addr) s).1.2]
  | .mLsrZpX b => [(addressOf (.zpx b) s).1.2]
  | .mLsrAbsX addr => [(addressOf (.abx addr) s).1.2]
  | .mRorZp b => [(addressOf (.zp b) s).1.2]
  | .mRorAbs addr => [(addressOf (.abs addr) s).1.2]
  | .mRorZpX b => [(addressOf (.zpx b) s).1.2]
  | .mRorAbsX addr => [(addressOf (.abx addr) s).1.2]
  | .mStaIzx b => [(addressOf (.izx b) s).1.2]
  | .mStyZp b => [(addressOf (.zp b) s).1.2]
  | .mStaZp b => [(addressOf (.zp b) s).1.2]
  | .mStxZp b => [(addressOf (.zp b) s).1.2]
  | .mStyAbs addr => [(addressOf (.abs addr) s).1.2]
  | .mStaAbs addr => [(addressOf (.abs addr) s).1.2]
  | .mStxAbs addr => [(addressOf (.abs addr) s).1.2]
  | .mStaIzy b => [(addressOf (.izy b) s).1.2]
  | .mStyZpX b => [(addressOf (.zpx b) s).1.2]
  | .mStaZpX b => [(addressOf (.zpx b) s).1.2]
  | .mStxZpY b => [(addressOf (.zpy b) s).1.2]
  | .mStaAbsY addr => [(addressOf (.aby addr) s).1.2]
  | .mStaAbsX addr => [(addressOf (.abx addr) s).1.2]
  | .mDecZp b => [(addressOf (.zp b) s).1.2]
  | .mDecAbs addr => [(addressOf (.abs addr) s).1.2]
  | .mDecZpX b => [(addressOf (.zpx b) s).1.2]
  | .mDecAbsX addr => [(addressOf (.abx addr) s).1.2]
  | .mIncZp b => [(addressOf (.zp b) s).1.2]
  | .mIncAbs addr => [(addressOf (.abs addr) s).1.2]
  | .mIncZpX b => [(addressOf (.zpx b) s).1.2]
  | .mIncAbsX addr => [(addressOf (.abx addr) s).1.2]
  | .mPha => [stackAddr s.m.s]
  | .mPhp => [stackAddr s.m.s]
  | .mJsr _ => [stackAddr s.m.s, stackAddr (s.m.s - 1)]
  | .mBrk => [stackAddr s.m.s, stackAddr (s.m.s - 1), stackAddr (s.m.s - 2)]
  | _ => []

/-- The bits of `F` an instruction of the Z80 leaves as they are, `S` in bit 7 (R37, R230): a flag that its rule does not name. An
instruction not named writes no flag. -/
def keptFlags : Instr → Byte
  | .zAddAR .. => 0x00
  | .zAddAN .. => 0x00
  | .zAdcAR .. => 0x00
  | .zAdcAN .. => 0x00
  | .zSubR .. => 0x00
  | .zSubN .. => 0x00
  | .zSbcAR .. => 0x00
  | .zSbcAN .. => 0x00
  | .zAndR .. => 0x00
  | .zAndN .. => 0x00
  | .zXorR .. => 0x00
  | .zXorN .. => 0x00
  | .zOrR .. => 0x00
  | .zOrN .. => 0x00
  | .zCpR .. => 0x00
  | .zCpN .. => 0x00
  | .zAddAMemXy .. => 0x00
  | .zAddAXyHalf .. => 0x00
  | .zAdcAMemXy .. => 0x00
  | .zAdcAXyHalf .. => 0x00
  | .zSubMemXy .. => 0x00
  | .zSubXyHalf .. => 0x00
  | .zSbcAMemXy .. => 0x00
  | .zSbcAXyHalf .. => 0x00
  | .zAndMemXy .. => 0x00
  | .zAndXyHalf .. => 0x00
  | .zXorMemXy .. => 0x00
  | .zXorXyHalf .. => 0x00
  | .zOrMemXy .. => 0x00
  | .zOrXyHalf .. => 0x00
  | .zCpMemXy .. => 0x00
  | .zCpXyHalf .. => 0x00
  | .zAddAMemHl => 0x00
  | .zAdcAMemHl => 0x00
  | .zSubMemHl => 0x00
  | .zSbcAMemHl => 0x00
  | .zAndMemHl => 0x00
  | .zXorMemHl => 0x00
  | .zOrMemHl => 0x00
  | .zCpMemHl => 0x00
  | .zNeg => 0x00
  | .zNegCopy .. => 0x00
  | .zSbcHlSs .. => 0x00
  | .zAdcHlSs .. => 0x00
  | .zExAfAf => 0x00
  | .zRlcR .. => 0x00
  | .zRrcR .. => 0x00
  | .zRlR .. => 0x00
  | .zRrR .. => 0x00
  | .zSlaR .. => 0x00
  | .zSraR .. => 0x00
  | .zSllR .. => 0x00
  | .zSrlR .. => 0x00
  | .zRlcMemXy .. => 0x00
  | .zRrcMemXy .. => 0x00
  | .zRlMemXy .. => 0x00
  | .zRrMemXy .. => 0x00
  | .zSlaMemXy .. => 0x00
  | .zSraMemXy .. => 0x00
  | .zSllMemXy .. => 0x00
  | .zSrlMemXy .. => 0x00
  | .zRlcMemHl => 0x00
  | .zRrcMemHl => 0x00
  | .zRlMemHl => 0x00
  | .zRrMemHl => 0x00
  | .zSlaMemHl => 0x00
  | .zSraMemHl => 0x00
  | .zSllMemHl => 0x00
  | .zSrlMemHl => 0x00
  | .zRotMemXyR .. => 0x00
  | .zIni => 0x00
  | .zInd => 0x00
  | .zInir => 0x00
  | .zIndr => 0x00
  | .zOuti => 0x00
  | .zOutd => 0x00
  | .zOtir => 0x00
  | .zOtdr => 0x00
  | .zPopQq qq => if qq = .af then 0x00 else 0xFF
  | .zDaa => 0x02
  | .zIncR .. => 0x01
  | .zDecR .. => 0x01
  | .zIncXyHalf .. => 0x01
  | .zDecXyHalf .. => 0x01
  | .zIncMemXy .. => 0x01
  | .zDecMemXy .. => 0x01
  | .zIncMemHl => 0x01
  | .zDecMemHl => 0x01
  | .zBitBR .. => 0x01
  | .zBitBMemHl .. => 0x01
  | .zBitBMemXy .. => 0x01
  | .zBitBMemXyZ .. => 0x01
  | .zRld => 0x01
  | .zRrd => 0x01
  | .zInRC .. => 0x01
  | .zInFC => 0x01
  | .zLdAI => 0x01
  | .zLdAR => 0x01
  | .zCpi => 0x01
  | .zCpd => 0x01
  | .zCpir => 0x01
  | .zCpdr => 0x01
  | .zLdi => 0xC1
  | .zLdd => 0xC1
  | .zLdir => 0xC1
  | .zLddr => 0xC1
  | .zCpl => 0xC5
  | .zCcf => 0xC4
  | .zScf => 0xC4
  | .zAddHlSs .. => 0xC4
  | .zAddXyPp .. => 0xC4
  | .zRlca => 0xC4
  | .zRla => 0xC4
  | .zRrca => 0xC4
  | .zRra => 0xC4
  | _ => 0xFF

/-- The bits of the byte `P_push(0)` (R50) an instruction of the 6502 leaves as they are (R540): a flag that its rule does not name. An
instruction not named writes no flag. -/
def keptStatus : Instr → Byte
  | .mOraIzx .. => 0x7D
  | .mOraZp .. => 0x7D
  | .mOraImm .. => 0x7D
  | .mOraAbs .. => 0x7D
  | .mOraIzy .. => 0x7D
  | .mOraZpX .. => 0x7D
  | .mOraAbsY .. => 0x7D
  | .mOraAbsX .. => 0x7D
  | .mAndIzx .. => 0x7D
  | .mAndZp .. => 0x7D
  | .mAndImm .. => 0x7D
  | .mAndAbs .. => 0x7D
  | .mAndIzy .. => 0x7D
  | .mAndZpX .. => 0x7D
  | .mAndAbsY .. => 0x7D
  | .mAndAbsX .. => 0x7D
  | .mEorIzx .. => 0x7D
  | .mEorZp .. => 0x7D
  | .mEorImm .. => 0x7D
  | .mEorAbs .. => 0x7D
  | .mEorIzy .. => 0x7D
  | .mEorZpX .. => 0x7D
  | .mEorAbsY .. => 0x7D
  | .mEorAbsX .. => 0x7D
  | .mLdyImm .. => 0x7D
  | .mLdaIzx .. => 0x7D
  | .mLdxImm .. => 0x7D
  | .mLdyZp .. => 0x7D
  | .mLdaZp .. => 0x7D
  | .mLdxZp .. => 0x7D
  | .mLdaImm .. => 0x7D
  | .mLdyAbs .. => 0x7D
  | .mLdaAbs .. => 0x7D
  | .mLdxAbs .. => 0x7D
  | .mLdaIzy .. => 0x7D
  | .mLdyZpX .. => 0x7D
  | .mLdaZpX .. => 0x7D
  | .mLdxZpY .. => 0x7D
  | .mLdaAbsY .. => 0x7D
  | .mLdyAbsX .. => 0x7D
  | .mLdaAbsX .. => 0x7D
  | .mLdxAbsY .. => 0x7D
  | .mDecZp .. => 0x7D
  | .mDecAbs .. => 0x7D
  | .mDecZpX .. => 0x7D
  | .mDecAbsX .. => 0x7D
  | .mIncZp .. => 0x7D
  | .mIncAbs .. => 0x7D
  | .mIncZpX .. => 0x7D
  | .mIncAbsX .. => 0x7D
  | .mTax => 0x7D
  | .mTay => 0x7D
  | .mTxa => 0x7D
  | .mTya => 0x7D
  | .mTsx => 0x7D
  | .mPla => 0x7D
  | .mInx => 0x7D
  | .mIny => 0x7D
  | .mDex => 0x7D
  | .mDey => 0x7D
  | .mAslZp .. => 0x7C
  | .mAslAbs .. => 0x7C
  | .mAslZpX .. => 0x7C
  | .mAslAbsX .. => 0x7C
  | .mRolZp .. => 0x7C
  | .mRolAbs .. => 0x7C
  | .mRolZpX .. => 0x7C
  | .mRolAbsX .. => 0x7C
  | .mLsrZp .. => 0x7C
  | .mLsrAbs .. => 0x7C
  | .mLsrZpX .. => 0x7C
  | .mLsrAbsX .. => 0x7C
  | .mRorZp .. => 0x7C
  | .mRorAbs .. => 0x7C
  | .mRorZpX .. => 0x7C
  | .mRorAbsX .. => 0x7C
  | .mCpyImm .. => 0x7C
  | .mCmpIzx .. => 0x7C
  | .mCpyZp .. => 0x7C
  | .mCmpZp .. => 0x7C
  | .mCmpImm .. => 0x7C
  | .mCpyAbs .. => 0x7C
  | .mCmpAbs .. => 0x7C
  | .mCmpIzy .. => 0x7C
  | .mCmpZpX .. => 0x7C
  | .mCmpAbsY .. => 0x7C
  | .mCmpAbsX .. => 0x7C
  | .mCpxImm .. => 0x7C
  | .mCpxZp .. => 0x7C
  | .mCpxAbs .. => 0x7C
  | .mAslA => 0x7C
  | .mRolA => 0x7C
  | .mLsrA => 0x7C
  | .mRorA => 0x7C
  | .mAdcIzx .. => 0x3C
  | .mAdcZp .. => 0x3C
  | .mAdcImm .. => 0x3C
  | .mAdcAbs .. => 0x3C
  | .mAdcIzy .. => 0x3C
  | .mAdcZpX .. => 0x3C
  | .mAdcAbsY .. => 0x3C
  | .mAdcAbsX .. => 0x3C
  | .mSbcIzx .. => 0x3C
  | .mSbcZp .. => 0x3C
  | .mSbcImm .. => 0x3C
  | .mSbcAbs .. => 0x3C
  | .mSbcIzy .. => 0x3C
  | .mSbcZpX .. => 0x3C
  | .mSbcAbsY .. => 0x3C
  | .mSbcAbsX .. => 0x3C
  | .mBitZp .. => 0x3D
  | .mBitAbs .. => 0x3D
  | .mPlp => 0x30
  | .mRti => 0x30
  | .mClc => 0xFE
  | .mSec => 0xFE
  | .mCld => 0xF7
  | .mSed => 0xF7
  | .mCli => 0xFB
  | .mSei => 0xFB
  | .mBrk => 0xFB
  | .mClv => 0xBF
  | _ => 0xFF

end Machine

end Sys2Proof
end

