-- ==== Sys2Proof/Machine/Reference.lean ====
section
/-! DEFINITION. The forms the statements about instructions quantify over: which instruction an operation on an operand is
(spec/30_encoding.md R173, R176; spec/41_z80_alu.md R295; spec/42_z80_rotate_bit.md R350; spec/46_m6502_a.md R556 to R583), where the
operand is read and written, and the flag byte described bit by bit. No meaning is written with these. -/
namespace Sys2Proof.Machine

/-! ## Flags -/

/-- The eight flags of the byte `f` are exactly these (R37). -/
def FlagsAre (f : Byte) (s z f5 h f3 pv n c : Prop) : Prop :=
  (flagS f = true ↔ s) ∧ (flagZ f = true ↔ z) ∧ (flag5 f = true ↔ f5) ∧ (flagH f = true ↔ h) ∧ (flag3 f = true ↔ f3)
    ∧ (flagPV f = true ↔ pv) ∧ (flagN f = true ↔ n) ∧ (flagC f = true ↔ c)

/-- The true result `x` of an operation on two's-complement bytes lies outside -128..127 (R290). -/
def Overflows8 (x : Int) : Prop := x < -128 ∨ 127 < x

/-- The true result `x` of an operation on two's-complement words lies outside -32768..32767 (R290). -/
def Overflows16 (x : Int) : Prop := x < -32768 ∨ 32767 < x

/-- `v` has an even number of 1 bits (R290). -/
def EvenOnes (v : Byte) : Prop := ((List.range 8).filter fun k => v.getLsbD k).length % 2 = 0

/-! ## Operands of the Z80's 8-bit instructions -/

/-- The operand `s` of the accumulator operations (R295, R503). -/
inductive Source8 where
  | reg (r : Reg8)
  | memHl
  | imm (n : Byte)
  | memXy (xy : XYReg) (d : Byte)
  | half (xy : XYReg) (l : Half)
  deriving DecidableEq, Repr

/-- The operand's value, and the state after it is read. -/
def Source8.read (o : Source8) (s : State) : Byte × State :=
  match o with
  | .reg r => (s.z.get8 r, s)
  | .memHl => memRead s.z.hl s
  | .imm n => (n, s)
  | .memXy xy d => memRead (s.z.getXY xy + d.signExtend 16) s
  | .half xy l => (s.z.getHalf xy l, s)

/-- The form has its meaning under the configuration: the halves of an index register only when `CFG.z80_undoc` is true (R500). -/
def Source8.available (o : Source8) (cfg : Config) : Prop :=
  match o with
  | .half _ _ => cfg.z80Undoc = true
  | _ => True

/-- `ADD A,s`, or `ADC A,s` with the carry (R296, R297). -/
def addInstr (withCarry : Bool) (o : Source8) : Instr :=
  match withCarry, o with
  | false, .reg r => .zAddAR r
  | false, .memHl => .zAddAMemHl
  | false, .imm n => .zAddAN n
  | false, .memXy xy d => .zAddAMemXy xy d
  | false, .half xy l => .zAddAXyHalf xy l
  | true, .reg r => .zAdcAR r
  | true, .memHl => .zAdcAMemHl
  | true, .imm n => .zAdcAN n
  | true, .memXy xy d => .zAdcAMemXy xy d
  | true, .half xy l => .zAdcAXyHalf xy l

/-- `SUB s`, or `SBC A,s` with the carry (R298, R299). -/
def subInstr (withCarry : Bool) (o : Source8) : Instr :=
  match withCarry, o with
  | false, .reg r => .zSubR r
  | false, .memHl => .zSubMemHl
  | false, .imm n => .zSubN n
  | false, .memXy xy d => .zSubMemXy xy d
  | false, .half xy l => .zSubXyHalf xy l
  | true, .reg r => .zSbcAR r
  | true, .memHl => .zSbcAMemHl
  | true, .imm n => .zSbcAN n
  | true, .memXy xy d => .zSbcAMemXy xy d
  | true, .half xy l => .zSbcAXyHalf xy l

/-- `CP s` (R303). -/
def cpInstr : Source8 → Instr
  | .reg r => .zCpR r
  | .memHl => .zCpMemHl
  | .imm n => .zCpN n
  | .memXy xy d => .zCpMemXy xy d
  | .half xy l => .zCpXyHalf xy l

/-- `AND s` (R300). -/
def andInstr : Source8 → Instr
  | .reg r => .zAndR r
  | .memHl => .zAndMemHl
  | .imm n => .zAndN n
  | .memXy xy d => .zAndMemXy xy d
  | .half xy l => .zAndXyHalf xy l

/-- `XOR s` (R301). -/
def xorInstr : Source8 → Instr
  | .reg r => .zXorR r
  | .memHl => .zXorMemHl
  | .imm n => .zXorN n
  | .memXy xy d => .zXorMemXy xy d
  | .half xy l => .zXorXyHalf xy l

/-- `OR s` (R302). -/
def orInstr : Source8 → Instr
  | .reg r => .zOrR r
  | .memHl => .zOrMemHl
  | .imm n => .zOrN n
  | .memXy xy d => .zOrMemXy xy d
  | .half xy l => .zOrXyHalf xy l

/-- A place a read-modify-write instruction of the Z80 works on (R350, R503, R505); `copy` is a memory place whose new value goes to
a register too. -/
inductive Place8 where
  | reg (r : Reg8)
  | memHl
  | memXy (xy : XYReg) (d : Byte)
  | half (xy : XYReg) (l : Half)
  | copy (xy : XYReg) (d : Byte) (r : Reg8)
  deriving DecidableEq, Repr

/-- The place's value, and the state after it is read. -/
def Place8.read (p : Place8) (s : State) : Byte × State :=
  match p with
  | .reg r => (s.z.get8 r, s)
  | .memHl => memRead s.z.hl s
  | .memXy xy d => memRead (s.z.getXY xy + d.signExtend 16) s
  | .half xy l => (s.z.getHalf xy l, s)
  | .copy xy d _ => memRead (s.z.getXY xy + d.signExtend 16) s

/-- The state with `v` written to the place. -/
def Place8.write (p : Place8) (v : Byte) (s : State) : State :=
  match p with
  | .reg r => s.onZ (Z80.set8 r v)
  | .memHl => memWrite s.z.hl v s
  | .memXy xy d => memWrite (s.z.getXY xy + d.signExtend 16) v s
  | .half xy l => s.onZ (Z80.setHalf xy l v)
  | .copy xy d r => (memWrite (s.z.getXY xy + d.signExtend 16) v s).onZ (Z80.set8 r v)

/-- `INC` of a place (R304 to R306, R503); there is none with a register copy. -/
def incInstr : Place8 → Option Instr
  | .reg r => some (.zIncR r)
  | .memHl => some .zIncMemHl
  | .memXy xy d => some (.zIncMemXy xy d)
  | .half xy l => some (.zIncXyHalf xy l)
  | .copy _ _ _ => none

/-- `DEC` of a place (R307 to R309, R503). -/
def decInstr : Place8 → Option Instr
  | .reg r => some (.zDecR r)
  | .memHl => some .zDecMemHl
  | .memXy xy d => some (.zDecMemXy xy d)
  | .half xy l => some (.zDecXyHalf xy l)
  | .copy _ _ _ => none

/-- The eight rotates and shifts of a place (R350, R504, R505); there is none on half an index register. -/
def rotInstr (rot : Rot) (p : Place8) : Option Instr :=
  match p with
  | .reg r =>
    some (match rot with
      | .rlc => .zRlcR r
      | .rrc => .zRrcR r
      | .rl => .zRlR r
      | .rr => .zRrR r
      | .sla => .zSlaR r
      | .sra => .zSraR r
      | .sll => .zSllR r
      | .srl => .zSrlR r)
  | .memHl =>
    some (match rot with
      | .rlc => .zRlcMemHl
      | .rrc => .zRrcMemHl
      | .rl => .zRlMemHl
      | .rr => .zRrMemHl
      | .sla => .zSlaMemHl
      | .sra => .zSraMemHl
      | .sll => .zSllMemHl
      | .srl => .zSrlMemHl)
  | .memXy xy d =>
    some (match rot with
      | .rlc => .zRlcMemXy xy d
      | .rrc => .zRrcMemXy xy d
      | .rl => .zRlMemXy xy d
      | .rr => .zRrMemXy xy d
      | .sla => .zSlaMemXy xy d
      | .sra => .zSraMemXy xy d
      | .sll => .zSllMemXy xy d
      | .srl => .zSrlMemXy xy d)
  | .half _ _ => none
  | .copy xy d r => some (.zRotMemXyR xy d rot r)

/-- Whether a rotate or shift of a place is an undocumented encoding (R504, R505). -/
def rotUndocumented (rot : Rot) (p : Place8) : Prop :=
  rot = .sll ∨ ∃ xy d r, p = .copy xy d r

/-- `SET b` of a place (R368, R505). -/
def setInstr (b : BitVec 3) : Place8 → Option Instr
  | .reg r => some (.zSetBR b r)
  | .memHl => some (.zSetBMemHl b)
  | .memXy xy d => some (.zSetBMemXy xy d b)
  | .half _ _ => none
  | .copy xy d r => some (.zSetBMemXyR xy d b r)

/-- `RES b` of a place (R369, R505). -/
def resInstr (b : BitVec 3) : Place8 → Option Instr
  | .reg r => some (.zResBR b r)
  | .memHl => some (.zResBMemHl b)
  | .memXy xy d => some (.zResBMemXy xy d b)
  | .half _ _ => none
  | .copy xy d r => some (.zResBMemXyR xy d b r)

/-- The result of a rotate or shift of the byte `v` with the old carry `c`, and the bit shifted out, as numbers (R355 to R361,
R504). -/
def shiftNumbers (rot : Rot) (v c : Nat) : Nat × Nat :=
  match rot with
  | .rlc => (2 * v % 256 + v / 128, v / 128)
  | .rrc => (v / 2 + 128 * (v % 2), v % 2)
  | .rl => (2 * v % 256 + c, v / 128)
  | .rr => (v / 2 + 128 * c, v % 2)
  | .sla => (2 * v % 256, v / 128)
  | .sra => (v / 2 + 128 * (v / 128), v % 2)
  | .sll => (2 * v % 256 + 1, v / 128)
  | .srl => (v / 2, v % 2)

/-! ## Operands of the 6502 -/

/-- The operand `M` of a read-class instruction: immediate, or a byte in memory (R544 to R553). -/
inductive SourceM where
  | imm (b : Byte)
  | mem (mode : AddrMode)
  deriving DecidableEq, Repr

/-- The operand's value, and the state after its address is formed, the page-crossing cycles are counted and it is read (R555). -/
def SourceM.read (o : SourceM) (s : State) : Byte × State :=
  match o with
  | .imm b => (b, s)
  | .mem mode =>
    let ad := addressOf mode s
    let crossed := hi8 ad.1.1 ≠ hi8 ad.1.2
    memRead ad.1.2 (if crossed then cycM s.cfg.cyc.pageCross ad.2 else ad.2)

/-- The read-class instructions that work on `A` (R556, R572 to R580). -/
inductive AccOp where
  | lda | and | eor | ora | adc | sbc | cmp
  deriving DecidableEq, Repr

/-- The instruction of an operation on `A` and an operand; there is none in mode ZPY (R547). -/
def accInstr (op : AccOp) (o : SourceM) : Option Instr :=
  match op, o with
  | .lda, .imm b => some (.mLdaImm b)
  | .lda, .mem (.zp b) => some (.mLdaZp b)
  | .lda, .mem (.zpx b) => some (.mLdaZpX b)
  | .lda, .mem (.abs a) => some (.mLdaAbs a)
  | .lda, .mem (.abx a) => some (.mLdaAbsX a)
  | .lda, .mem (.aby a) => some (.mLdaAbsY a)
  | .lda, .mem (.izx b) => some (.mLdaIzx b)
  | .lda, .mem (.izy b) => some (.mLdaIzy b)
  | .and, .imm b => some (.mAndImm b)
  | .and, .mem (.zp b) => some (.mAndZp b)
  | .and, .mem (.zpx b) => some (.mAndZpX b)
  | .and, .mem (.abs a) => some (.mAndAbs a)
  | .and, .mem (.abx a) => some (.mAndAbsX a)
  | .and, .mem (.aby a) => some (.mAndAbsY a)
  | .and, .mem (.izx b) => some (.mAndIzx b)
  | .and, .mem (.izy b) => some (.mAndIzy b)
  | .eor, .imm b => some (.mEorImm b)
  | .eor, .mem (.zp b) => some (.mEorZp b)
  | .eor, .mem (.zpx b) => some (.mEorZpX b)
  | .eor, .mem (.abs a) => some (.mEorAbs a)
  | .eor, .mem (.abx a) => some (.mEorAbsX a)
  | .eor, .mem (.aby a) => some (.mEorAbsY a)
  | .eor, .mem (.izx b) => some (.mEorIzx b)
  | .eor, .mem (.izy b) => some (.mEorIzy b)
  | .ora, .imm b => some (.mOraImm b)
  | .ora, .mem (.zp b) => some (.mOraZp b)
  | .ora, .mem (.zpx b) => some (.mOraZpX b)
  | .ora, .mem (.abs a) => some (.mOraAbs a)
  | .ora, .mem (.abx a) => some (.mOraAbsX a)
  | .ora, .mem (.aby a) => some (.mOraAbsY a)
  | .ora, .mem (.izx b) => some (.mOraIzx b)
  | .ora, .mem (.izy b) => some (.mOraIzy b)
  | .adc, .imm b => some (.mAdcImm b)
  | .adc, .mem (.zp b) => some (.mAdcZp b)
  | .adc, .mem (.zpx b) => some (.mAdcZpX b)
  | .adc, .mem (.abs a) => some (.mAdcAbs a)
  | .adc, .mem (.abx a) => some (.mAdcAbsX a)
  | .adc, .mem (.aby a) => some (.mAdcAbsY a)
  | .adc, .mem (.izx b) => some (.mAdcIzx b)
  | .adc, .mem (.izy b) => some (.mAdcIzy b)
  | .sbc, .imm b => some (.mSbcImm b)
  | .sbc, .mem (.zp b) => some (.mSbcZp b)
  | .sbc, .mem (.zpx b) => some (.mSbcZpX b)
  | .sbc, .mem (.abs a) => some (.mSbcAbs a)
  | .sbc, .mem (.abx a) => some (.mSbcAbsX a)
  | .sbc, .mem (.aby a) => some (.mSbcAbsY a)
  | .sbc, .mem (.izx b) => some (.mSbcIzx b)
  | .sbc, .mem (.izy b) => some (.mSbcIzy b)
  | .cmp, .imm b => some (.mCmpImm b)
  | .cmp, .mem (.zp b) => some (.mCmpZp b)
  | .cmp, .mem (.zpx b) => some (.mCmpZpX b)
  | .cmp, .mem (.abs a) => some (.mCmpAbs a)
  | .cmp, .mem (.abx a) => some (.mCmpAbsX a)
  | .cmp, .mem (.aby a) => some (.mCmpAbsY a)
  | .cmp, .mem (.izx b) => some (.mCmpIzx b)
  | .cmp, .mem (.izy b) => some (.mCmpIzy b)
  | _, .mem (.zpy _) => none

/-- `LDX`, `LDY`, `CPX`, `CPY` and `BIT` on an operand, in the modes that exist (R557, R558, R575, R581, R582). -/
inductive IndexOp where
  | ldx | ldy | cpx | cpy | bit
  deriving DecidableEq, Repr

/-- The instruction of an index operation on an operand. -/
def indexInstr (op : IndexOp) (o : SourceM) : Option Instr :=
  match op, o with
  | .ldx, .imm b => some (.mLdxImm b)
  | .ldx, .mem (.zp b) => some (.mLdxZp b)
  | .ldx, .mem (.zpy b) => some (.mLdxZpY b)
  | .ldx, .mem (.abs a) => some (.mLdxAbs a)
  | .ldx, .mem (.aby a) => some (.mLdxAbsY a)
  | .ldy, .imm b => some (.mLdyImm b)
  | .ldy, .mem (.zp b) => some (.mLdyZp b)
  | .ldy, .mem (.zpx b) => some (.mLdyZpX b)
  | .ldy, .mem (.abs a) => some (.mLdyAbs a)
  | .ldy, .mem (.abx a) => some (.mLdyAbsX a)
  | .cpx, .imm b => some (.mCpxImm b)
  | .cpx, .mem (.zp b) => some (.mCpxZp b)
  | .cpx, .mem (.abs a) => some (.mCpxAbs a)
  | .cpy, .imm b => some (.mCpyImm b)
  | .cpy, .mem (.zp b) => some (.mCpyZp b)
  | .cpy, .mem (.abs a) => some (.mCpyAbs a)
  | .bit, .mem (.zp b) => some (.mBitZp b)
  | .bit, .mem (.abs a) => some (.mBitAbs a)
  | _, _ => none

/-- The register a store of the 6502 stores (R559 to R561). -/
inductive StoreReg where
  | a | x | y
  deriving DecidableEq, Repr

/-- The value of a stored register. -/
def StoreReg.value (r : StoreReg) (m : M6502) : Byte :=
  match r with
  | .a => m.a
  | .x => m.x
  | .y => m.y

/-- The store instruction of a register in a mode, where it exists (R559 to R561). -/
def storeInstr (r : StoreReg) (mode : AddrMode) : Option Instr :=
  match r, mode with
  | .a, .zp b => some (.mStaZp b)
  | .a, .zpx b => some (.mStaZpX b)
  | .a, .abs a => some (.mStaAbs a)
  | .a, .abx a => some (.mStaAbsX a)
  | .a, .aby a => some (.mStaAbsY a)
  | .a, .izx b => some (.mStaIzx b)
  | .a, .izy b => some (.mStaIzy b)
  | .x, .zp b => some (.mStxZp b)
  | .x, .zpy b => some (.mStxZpY b)
  | .x, .abs a => some (.mStxAbs a)
  | .y, .zp b => some (.mStyZp b)
  | .y, .zpx b => some (.mStyZpX b)
  | .y, .abs a => some (.mStyAbs a)
  | _, _ => none

/-- The read-modify-write operations of the 6502 (R583, R586, R620 to R623). -/
inductive ModifyOp where
  | inc | dec | asl | lsr | rol | ror
  deriving DecidableEq, Repr

/-- The read-modify-write instruction in a mode, where it exists. -/
def modifyInstr (op : ModifyOp) (mode : AddrMode) : Option Instr :=
  match op, mode with
  | .inc, .zp b => some (.mIncZp b)
  | .inc, .zpx b => some (.mIncZpX b)
  | .inc, .abs a => some (.mIncAbs a)
  | .inc, .abx a => some (.mIncAbsX a)
  | .dec, .zp b => some (.mDecZp b)
  | .dec, .zpx b => some (.mDecZpX b)
  | .dec, .abs a => some (.mDecAbs a)
  | .dec, .abx a => some (.mDecAbsX a)
  | .asl, .zp b => some (.mAslZp b)
  | .asl, .zpx b => some (.mAslZpX b)
  | .asl, .abs a => some (.mAslAbs a)
  | .asl, .abx a => some (.mAslAbsX a)
  | .lsr, .zp b => some (.mLsrZp b)
  | .lsr, .zpx b => some (.mLsrZpX b)
  | .lsr, .abs a => some (.mLsrAbs a)
  | .lsr, .abx a => some (.mLsrAbsX a)
  | .rol, .zp b => some (.mRolZp b)
  | .rol, .zpx b => some (.mRolZpX b)
  | .rol, .abs a => some (.mRolAbs a)
  | .rol, .abx a => some (.mRolAbsX a)
  | .ror, .zp b => some (.mRorZp b)
  | .ror, .zpx b => some (.mRorZpX b)
  | .ror, .abs a => some (.mRorAbs a)
  | .ror, .abx a => some (.mRorAbsX a)
  | _, _ => none

/-- The form of a shift that works on `A` (R620 to R623); `INC` and `DEC` have none. -/
def modifyAInstr : ModifyOp → Option Instr
  | .inc => none
  | .dec => none
  | .asl => some .mAslA
  | .lsr => some .mLsrA
  | .rol => some .mRolA
  | .ror => some .mRorA

/-- The result of a read-modify-write of `v` with the old carry `c`, and the new carry, as numbers. -/
def modifyNumbers (op : ModifyOp) (v c : Nat) : Nat × Nat :=
  match op with
  | .inc => ((v + 1) % 256, c)
  | .dec => ((v + 255) % 256, c)
  | .asl => (2 * v % 256, v / 128)
  | .lsr => (v / 2, v % 2)
  | .rol => (2 * v % 256 + c, v / 128)
  | .ror => (v / 2 + 128 * c, v % 2)

/-- The eight branches (R629 to R637). -/
inductive Branch where
  | bcc | bcs | beq | bmi | bne | bpl | bvc | bvs
  deriving DecidableEq, Repr

/-- The instruction of a branch. -/
def Branch.instr (k : Branch) (b : Byte) : Instr :=
  match k with
  | .bcc => .mBcc b
  | .bcs => .mBcs b
  | .beq => .mBeq b
  | .bmi => .mBmi b
  | .bne => .mBne b
  | .bpl => .mBpl b
  | .bvc => .mBvc b
  | .bvs => .mBvs b

/-- Whether a branch is taken (R630 to R637). -/
def Branch.taken (k : Branch) (m : M6502) : Prop :=
  match k with
  | .bcc => m.fc = false
  | .bcs => m.fc = true
  | .beq => m.fz = true
  | .bmi => m.fn = true
  | .bne => m.fz = false
  | .bpl => m.fn = false
  | .bvc => m.fv = false
  | .bvs => m.fv = true

/-! ## Plain memory -/

/-- The platform has plain RAM at address `a` (R131, R150, log 4). -/
def PlainAt (cfg : Config) (a : Word) : Prop := routeOf cfg.memMap a = some .ram

/-- `s` and `t` differ at most in RAM, and there only at the addresses listed, and in the outputs recorded. -/
def OnlyRamAt (addrs : List Word) (s t : State) : Prop :=
  t = { s with mem := t.mem, events := t.events } ∧ ∀ a, a ∉ addrs → t.ramByte a = s.ramByte a

end Sys2Proof.Machine
end

