-- ==== Sys2Proof/Machine/StatedCosts.lean ====
section
/-! DEFINITION. The cost spec/opcode_table.json gives each row (the `cycles` of the row; spec/70_reset_and_hazards.md R930 to R934, R936):
instruction by instruction, where `CFG.cyc` holds tables indexed by the opcode byte. Read by the statements only. -/
namespace Sys2Proof

/-- The documented cost of an instruction on the path that is not taken, does not repeat and crosses no page, interrupts and penalties
apart (R930 to R934, R936). -/
def Instr.statedCost : Instr → Nat
  | .zIncR .. | .zDecR .. | .zLdRR .. | .zAddAR .. | .zAdcAR .. | .zSubR .. | .zSbcAR .. | .zAndR .. | .zXorR .. | .zOrR ..
  | .zCpR .. | .zPrefix .. | .zPrefixPrefix .. | .zNop | .zExAfAf | .zRlca | .zRrca | .zRla | .zRra | .zDaa | .zCpl | .zScf
  | .zCcf | .zHalt | .zExx | .zJpHl | .zExDeHl | .zDi | .zEi => 4
  | .zRetCc .. => 5
  | .zIncSs .. | .zDecSs .. | .zLdSpHl => 6
  | .zJrCc .. | .zLdRN .. | .zLdRMemHl .. | .zLdMemHlR .. | .zAddAN .. | .zAdcAN .. | .zSubN .. | .zSbcAN .. | .zAndN ..
  | .zXorN .. | .zOrN .. | .zCpN .. | .zLdMemBcA | .zLdMemDeA | .zLdAMemBc | .zLdAMemDe | .zAddAMemHl | .zAdcAMemHl
  | .zSubMemHl | .zSbcAMemHl | .zAndMemHl | .zXorMemHl | .zOrMemHl | .zCpMemHl => 7
  | .zDjnz .. | .zRlcR .. | .zRrcR .. | .zRlR .. | .zRrR .. | .zSlaR .. | .zSraR .. | .zSllR .. | .zSrlR .. | .zBitBR ..
  | .zResBR .. | .zSetBR .. | .zNegCopy .. | .zIllegalEd .. | .zIncXyHalf .. | .zDecXyHalf .. | .zLdXyHalfR ..
  | .zLdRXyHalf .. | .zAddAXyHalf .. | .zAdcAXyHalf .. | .zSubXyHalf .. | .zSbcAXyHalf .. | .zAndXyHalf .. | .zXorXyHalf ..
  | .zOrXyHalf .. | .zCpXyHalf .. | .zJpXy .. | .zNeg | .zIm0 | .zIm1 | .zIm2 | .zIm0Copy4E | .zIm0Copy66 | .zIm0Copy6E
  | .zIm1Copy | .zIm2Copy => 8
  | .zLdIA | .zLdRA | .zLdAI | .zLdAR => 9
  | .zLdDdNn .. | .zLdMemHlN .. | .zPopQq .. | .zJpCcNn .. | .zJpNn .. | .zCallCcNn .. | .zIncXy .. | .zDecXy ..
  | .zLdSpXy .. | .zRet => 10
  | .zAddHlSs .. | .zOutNA .. | .zInAN .. | .zPushQq .. | .zRst .. | .zLdXyHalfN .. | .zIncMemHl | .zDecMemHl => 11
  | .zJr .. | .zBitBMemHl .. | .zInRC .. | .zOutCR .. | .zInFC | .zOutC0 => 12
  | .zLdMemNnA .. | .zLdAMemNn .. => 13
  | .zRetnCopy .. | .zLdXyNn .. | .zPopXy .. | .zRetn | .zReti => 14
  | .zResBMemHl .. | .zSetBMemHl .. | .zSbcHlSs .. | .zAdcHlSs .. | .zAddXyPp .. | .zPushXy .. | .zRlcMemHl | .zRrcMemHl
  | .zRlMemHl | .zRrMemHl | .zSlaMemHl | .zSraMemHl | .zSllMemHl | .zSrlMemHl => 15
  | .zLdMemNnHl .. | .zLdHlMemNn .. | .zLdi | .zCpi | .zIni | .zOuti | .zLdd | .zCpd | .zInd | .zOutd | .zLdir | .zCpir
  | .zInir | .zOtir | .zLddr | .zCpdr | .zIndr | .zOtdr => 16
  | .zCallNn .. => 17
  | .zRrd | .zRld => 18
  | .zLdMemXyN .. | .zLdRMemXy .. | .zLdMemXyR .. | .zAddAMemXy .. | .zAdcAMemXy .. | .zSubMemXy .. | .zSbcAMemXy ..
  | .zAndMemXy .. | .zXorMemXy .. | .zOrMemXy .. | .zCpMemXy .. | .zExMemSpHl => 19
  | .zLdMemNnDd .. | .zLdDdMemNn .. | .zLdMemNnXy .. | .zLdXyMemNn .. | .zBitBMemXy .. | .zBitBMemXyZ .. => 20
  | .zIncMemXy .. | .zDecMemXy .. | .zExMemSpXy .. | .zRlcMemXy .. | .zRrcMemXy .. | .zRlMemXy .. | .zRrMemXy ..
  | .zSlaMemXy .. | .zSraMemXy .. | .zSllMemXy .. | .zSrlMemXy .. | .zRotMemXyR .. | .zResBMemXy .. | .zResBMemXyR ..
  | .zSetBMemXy .. | .zSetBMemXyR .. => 23
  | .mOraImm .. | .mBpl .. | .mAndImm .. | .mBmi .. | .mEorImm .. | .mBvc .. | .mAdcImm .. | .mBvs .. | .mBcc ..
  | .mLdyImm .. | .mLdxImm .. | .mLdaImm .. | .mBcs .. | .mCpyImm .. | .mCmpImm .. | .mBne .. | .mCpxImm .. | .mSbcImm ..
  | .mBeq .. | .mIllegal .. | .mAslA | .mClc | .mRolA | .mSec | .mLsrA | .mCli | .mRorA | .mSei | .mDey | .mTxa | .mTya
  | .mTxs | .mTay | .mTax | .mClv | .mTsx | .mIny | .mDex | .mCld | .mInx | .mNop | .mSed => 2
  | .mOraZp .. | .mBitZp .. | .mAndZp .. | .mEorZp .. | .mJmpAbs .. | .mAdcZp .. | .mStyZp .. | .mStaZp .. | .mStxZp ..
  | .mLdyZp .. | .mLdaZp .. | .mLdxZp .. | .mCpyZp .. | .mCmpZp .. | .mCpxZp .. | .mSbcZp .. | .mPhp | .mPha => 3
  | .mOraAbs .. | .mOraZpX .. | .mOraAbsY .. | .mOraAbsX .. | .mBitAbs .. | .mAndAbs .. | .mAndZpX .. | .mAndAbsY ..
  | .mAndAbsX .. | .mEorAbs .. | .mEorZpX .. | .mEorAbsY .. | .mEorAbsX .. | .mAdcAbs .. | .mAdcZpX .. | .mAdcAbsY ..
  | .mAdcAbsX .. | .mStyAbs .. | .mStaAbs .. | .mStxAbs .. | .mStyZpX .. | .mStaZpX .. | .mStxZpY .. | .mLdyAbs ..
  | .mLdaAbs .. | .mLdxAbs .. | .mLdyZpX .. | .mLdaZpX .. | .mLdxZpY .. | .mLdaAbsY .. | .mLdyAbsX .. | .mLdaAbsX ..
  | .mLdxAbsY .. | .mCpyAbs .. | .mCmpAbs .. | .mCmpZpX .. | .mCmpAbsY .. | .mCmpAbsX .. | .mCpxAbs .. | .mSbcAbs ..
  | .mSbcZpX .. | .mSbcAbsY .. | .mSbcAbsX .. | .mPlp | .mPla => 4
  | .mAslZp .. | .mOraIzy .. | .mRolZp .. | .mAndIzy .. | .mLsrZp .. | .mEorIzy .. | .mRorZp .. | .mJmpInd .. | .mAdcIzy ..
  | .mStaAbsY .. | .mStaAbsX .. | .mLdaIzy .. | .mDecZp .. | .mCmpIzy .. | .mIncZp .. | .mSbcIzy .. => 5
  | .mOraIzx .. | .mAslAbs .. | .mAslZpX .. | .mJsr .. | .mAndIzx .. | .mRolAbs .. | .mRolZpX .. | .mEorIzx .. | .mLsrAbs ..
  | .mLsrZpX .. | .mAdcIzx .. | .mRorAbs .. | .mRorZpX .. | .mStaIzx .. | .mStaIzy .. | .mLdaIzx .. | .mCmpIzx ..
  | .mDecAbs .. | .mDecZpX .. | .mSbcIzx .. | .mIncAbs .. | .mIncZpX .. | .mRti | .mRts => 6
  | .mAslAbsX .. | .mRolAbsX .. | .mLsrAbsX .. | .mRorAbsX .. | .mDecAbsX .. | .mIncAbsX .. | .mBrk => 7

end Sys2Proof
end

