-- ==== Sys2Proof/Safety.lean ====
section
/-! DEFINITION. What counts as a safe run: the legal states every claim about runs may assume (spec/10_state.md R36 to R69), and what
a driver's script may restore (spec/70_reset_and_hazards.md R912). -/
namespace Sys2Proof.Machine

/-- The VDP's register bank holds only legal bits (R54, R692). -/
def VdpLegalBits (r : VdpRegs) : Prop := r = r.masked

/-- The VDP's derived fields are the functions of the registers they are derived from (R58, R63, R64). -/
def VdpCoherent (cfg : Config) (v : Vdp) : Prop :=
  v.mode = modeOf cfg.modeDecode v.regs ∧ v.tab = tablesOf v.mode v.regs ∧ v.fg = hiPixel v.regs.r7 ∧ v.bg = loPixel v.regs.r7

/-- A framebuffer is 192 rows of 256 pixels (R67). -/
def FrameShape (fb : List (List Pixel)) : Prop := fb.length = 192 ∧ ∀ row ∈ fb, row.length = 256

/-- A legal VDP: legal bits, coherent derived fields, a whole framebuffer, the line counter inside the frame (R54 to R68). -/
def VdpLegal (cfg : Config) (v : Vdp) : Prop :=
  VdpLegalBits v.regs ∧ VdpCoherent cfg v ∧ FrameShape v.fb ∧ v.curline < cfg.totalLines

/-- The grace window is open only on the Z80, inside the loop of `Execute`, with the forced counter and no halt (R44, R838). -/
def GraceLegal (s : State) : Prop :=
  s.z.grace = true → s.cfg.cpu = .z80 ∧ s.phase = .execLoop ∧ s.z.icount = 1 ∧ s.z.halted = false

/-- CPU-visible RAM is in canonical form over 65536 addresses (R130). -/
def RamCanonical (s : State) : Prop := Memory.wf 65536 s.mem = true

/-- Video memory is in canonical form over 16384 addresses (R65). -/
def VramCanonical (v : Vdp) : Prop := Memory.wf 16384 v.vram = true

/-- A saved state that a save between two iterations of a machine with this configuration could have made (R70, R912). -/
def BlobLegal (cfg : Config) (b : Blob) : Prop := VdpLegal cfg b.vdp ∧ VramCanonical b.vdp ∧ b.z.grace = false

/-- Every saved state the driver's script restores is legal (R912, log 23). -/
def InputsLegal (s : State) : Prop :=
  ∀ line ∈ s.lines, ∀ act ∈ line.actions, ∀ b, act = .restore b → BlobLegal s.cfg b

/-- A step is safe when it answers a next state. -/
def StepsSafely (s : State) : Prop := ∃ t, step s = .next t

end Sys2Proof.Machine
end

