-- ==== Sys2Proof/Certificates/Slice0/Obligations.lean ====
section
/-! DEFINITION. The statements for the provers: encoding, step, invariants and frames; then the Z80 and the 6502 family by family; then
requests and the driver; then the VDP. Each docstring names the rules of spec/ it formalises. -/
open Sys2Proof Sys2Proof.Machine

/-! ## Encoding -/

/-- Decoding what `encode` writes gives the instruction back, with every operand, whatever bytes follow (spec/30_encoding.md R170 to
R204). -/
def Obligations.DecodeReadsWhatEncodeWrites : Prop :=
  ∀ (i : Instr) (rest : List Byte), i.wf = true → decode i.cpu (encode i ++ rest) = .ok i

/-- Whatever bytes decode to an instruction begin with its one encoding; it is well formed and of the variant asked for
(spec/30_encoding.md R183, R184, R200, R220). -/
def Obligations.DecodeTakesOnlyItsOwnEncoding : Prop :=
  ∀ (cpu : Cpu) (bytes : List Byte) (i : Instr), decode cpu bytes = .ok i →
    i.wf = true ∧ i.cpu = cpu ∧ ∃ rest, bytes = encode i ++ rest

/-- Words written out from the spec's encodings decode to the instructions they stand for (R231, R238, R245, R296, R350, R404, R451,
R503, R505, R510, R502, R556, R629, R648). A sanity statement. -/
def Obligations.WordsOfTheSpecDecode : Prop :=
  decode .z80 [0x78] = .ok (.zLdRR .a .b) ∧
  decode .z80 [0xDD, 0x36, 0x01, 0x7F] = .ok (.zLdMemXyN .ix 0x01 0x7F) ∧
  decode .z80 [0xED, 0x57] = .ok .zLdAI ∧
  decode .z80 [0xC6, 0x11] = .ok (.zAddAN 0x11) ∧
  decode .z80 [0xCB, 0x27] = .ok (.zSlaR .a) ∧
  decode .z80 [0x20, 0xFC] = .ok (.zJrCc .nz 0xFC) ∧
  decode .z80 [0xED, 0xB0] = .ok .zLdir ∧
  decode .z80 [0xFD, 0x65] = .ok (.zLdXyHalfR .iy .hi .xyl) ∧
  decode .z80 [0xDD, 0xCB, 0x00, 0x00] = .ok (.zRotMemXyR .ix 0x00 .rlc .b) ∧
  decode .z80 [0xED, 0x77] = .ok (.zIllegalEd 0x77) ∧
  decode .z80 [0xDD, 0x00] = .ok (.zPrefix .ix 0x00) ∧
  decode .m6502 [0xBD, 0xF0, 0x12] = .ok (.mLdaAbsX 0x12F0) ∧
  decode .m6502 [0xD0, 0xFD] = .ok (.mBne 0xFD) ∧
  decode .m6502 [0x02] = .ok (.mIllegal 0x02)

/-- The fetch reads the instruction whose encoding stands in plain RAM at the program counter, and changes nothing
(spec/20_memory.md R132, spec/30_encoding.md R183). -/
def Obligations.FetchFindsTheInstructionAtPc : Prop :=
  ∀ (i : Instr) (s : State), i.wf = true → i.cpu = s.cfg.cpu →
    (∀ k, k < (encode i).length → PlainAt s.cfg (s.pc + BitVec.ofNat 16 k) ∧
      (encode i)[k]? = some (s.ramByte (s.pc + BitVec.ofNat 16 k))) →
    fetch s = (some i, s)

/-! ## The step -/

/-- A step inside `Execute` runs the instruction the fetch found: `PC` stands past it, `R` is advanced by its opcode bytes in the low
seven bits and the table cost charged before it runs; with the grace window open, `graceEnd` follows unless it is `EI`. The cost is the
entry of its page of `CFG.cyc`, or that of an ignored prefix or of an illegal opcode; in the default tables it is the cost of the
opcode table's row, beside the default penalties (R40, R829, R842, R821, R822, R930 to R937). -/
def Obligations.StepRunsTheFetchedInstruction : Prop :=
  (∀ (i : Instr) (s s1 : State), s.phase = .execLoop → fetch s = (some i, s1) →
    (s.cfg.cpu = .z80 → 0 < s.z.icount → s.z.halted = false →
      let s0 := { s1 with z := { s1.z with
        pc := s1.z.pc + BitVec.ofNat 16 i.size
        r := advanceR (opcodeBytes i) s1.z.r
        icount := s1.z.icount - costZ80 s1.cfg i } }
      (s.z.grace = false → step s = exec i s0) ∧
      (i = .zEi → step s = exec i s0) ∧
      (s.z.grace = true → i ≠ .zEi → ∀ t, exec i s0 = .next t → step s = graceEnd t)) ∧
    (s.cfg.cpu = .m6502 → s.m.cycLine < s.quota →
      step s = exec i { s1 with m := { s1.m with
        pc := s1.m.pc + BitVec.ofNat 16 i.size
        cycLine := s1.m.cycLine + costM6502 s1.cfg i } })) ∧
  (∀ n r : Byte, advanceR n r = BitVec.ofNat 8 (r.toNat / 128 * 128 + (r.toNat + n.toNat) % 128)) ∧
  (∀ (i : Instr) (cfg : Config),
    let bytes := encode i
    let byte := fun k : Nat => bytes[k]?.getD 0
    let entry := fun (page : List Nat) (k : Nat) => page[(byte k).toNat]?.getD 0
    let ignored := (∃ xy b, i = .zPrefix xy b) ∨ ∃ xy xy', i = .zPrefixPrefix xy xy'
    let illegal := (∃ op, i = .zIllegalEd op) ∨ (i.isUndocumented = true ∧ cfg.z80Undoc = false)
    let prefixed := byte 0 ∈ [0xCB, 0xED, 0xDD, 0xFD]
    (ignored → i.size = 1 ∧ opcodeBytes i = 1 ∧ costZ80 cfg i = cfg.cyc.ignoredPrefix) ∧
    (¬ignored → i.size = bytes.length ∧ (prefixed → opcodeBytes i = 2) ∧ (¬prefixed → opcodeBytes i = 1) ∧
      (illegal → costZ80 cfg i = cfg.cyc.z80Illegal) ∧
      (¬illegal →
        (¬prefixed → costZ80 cfg i = entry cfg.cyc.main 0) ∧
        (byte 0 = 0xCB → costZ80 cfg i = entry cfg.cyc.cb 1) ∧
        (byte 0 = 0xED → costZ80 cfg i = entry cfg.cyc.ed 1) ∧
        (byte 0 ∈ [0xDD, 0xFD] → byte 1 = 0xCB → costZ80 cfg i = entry cfg.cyc.xycb 3) ∧
        (byte 0 ∈ [0xDD, 0xFD] → byte 1 ≠ 0xCB → costZ80 cfg i = entry cfg.cyc.xy 1))) ∧
    ((∃ op, i = .mIllegal op) → costM6502 cfg i = cfg.cyc.m6502Illegal) ∧
    ((∀ op, i ≠ .mIllegal op) → costM6502 cfg i = entry cfg.cyc.m6502 0) ∧
    (cfg.cyc = CycTables.default → i.wf = true →
      (i.cpu = .z80 → cfg.z80Undoc = true → costZ80 cfg i = i.statedCost) ∧
      (i.cpu = .m6502 → costM6502 cfg i = i.statedCost))) ∧
  (let costs := CycTables.default
   Config.default.cyc = costs ∧ costs.ignoredPrefix = 4 ∧ costs.z80Illegal = 8 ∧ costs.djnzTaken = 5 ∧ costs.jrTaken = 5 ∧
   costs.callTaken = 7 ∧ costs.retTaken = 6 ∧ costs.blockRepeat = 5 ∧ costs.m6502Illegal = 2 ∧ costs.pageCross = 1 ∧
   costs.branchTaken = 1 ∧ costs.branchPage = 1)

/-- No step faults. The only refusal is the mode 0 vector byte that is no restart opcode, on the Z80; at the entry sample point it
happens exactly then (spec/60_exceptions.md R820, R831, R834). -/
def Obligations.StepStopsOnlyOnAnUnknownVector : Prop :=
  (∀ (s : State) (r : Fault), step s ≠ .fault r) ∧
  (∀ (s : State) (q : Refusal), step s = .refused q → q = .im0VectorNotRst ∧ s.cfg.cpu = .z80) ∧
  (∀ s : State, s.phase = .execEntry → s.cfg.cpu = .z80 →
    (step s = .refused .im0VectorNotRst ↔
      s.ic.quit = false ∧ s.ic.nmi = false ∧ s.z.iff1 = true ∧ s.z.im = .im0 ∧
        ∃ v, s.ic.int = some v ∧ v &&& 0xC7 ≠ 0xC7))

/-- Every instruction completes in every state, keeps the configuration and what belongs to the driver, and leaves the other
variant's registers alone (spec/60_exceptions.md R820, spec/10_state.md R30). -/
def Obligations.EveryInstructionCompletes : Prop :=
  ∀ (i : Instr) (s : State), ∃ t, exec i s = .next t ∧
    t.cfg = s.cfg ∧ t.phase = s.phase ∧ t.quota = s.quota ∧ t.inTurn = s.inTurn ∧ t.lines = s.lines ∧ t.polls = s.polls ∧
    (i.cpu = .z80 → t.m = s.m) ∧ (i.cpu = .m6502 → t.z = s.z)

/-! ## Invariants -/

/-- Every step keeps CPU memory and video memory in canonical form (spec/20_memory.md R130, spec/10_state.md R65; the form is the
model's, log 3). -/
def Obligations.StepKeepsMemoriesCanonical : Prop :=
  ∀ s t : State, InputsLegal s → RamCanonical s → VramCanonical s.vdp → step s = .next t →
    InputsLegal t ∧ RamCanonical t ∧ VramCanonical t.vdp

/-- Every step keeps the VDP legal: reserved register bits 0, mode and cached addresses as the registers give them, 192 rows of 256
pixels, the line counter inside the frame; and no step writes the configuration (spec/10_state.md R54, R58, R63, R64, R67, R68,
spec/00_scope.md R13). -/
def Obligations.StepKeepsTheVdpLegalAndTheConfiguration : Prop :=
  ∀ s t : State, step s = .next t →
    t.cfg = s.cfg ∧
    (s.cfg.wf = true → InputsLegal s → VdpLegal s.cfg s.vdp → InputsLegal t ∧ VdpLegal t.cfg t.vdp)

/-- Every step keeps the grace window legal: open only inside the loop of the Z80's `Execute`, with the forced counter and no halt
(spec/10_state.md R44, spec/60_exceptions.md R838). -/
def Obligations.StepKeepsTheGraceWindow : Prop :=
  ∀ s t : State, InputsLegal s → GraceLegal s → step s = .next t → InputsLegal t ∧ GraceLegal t

/-- `Reset` in any state: the VDP with the values of R904 and the controller cleared, then the backdrop push, last the CPU: the Z80
with the values of R901 less those the spec leaves unspecified, or the 6502 with those of R902 and `PC` from the two reads of its vector
through the hook; memory and configuration stay, and the line constants are the region's or the machine's own (R900 to R905). From power-on
it meets every invariant. The model's: the record of the other variant stays (log 2, log 27), the platform may call the core when it
answers a read (log 5). -/
def Obligations.ResetGivesTheStatedValues : Prop :=
  State.reset = State.resetWith Config.default ∧ Config.default.wf = true ∧
  (∀ s : State, let t := resetMachine s
    ∃ v : Vdp,
      ((∀ a, Memory.read v.vram a = 0) ∧ FrameShape v.fb ∧ (∀ row ∈ v.fb, ∀ p ∈ row, p = 0) ∧ v.vstat = 0 ∧ v.vaddr = 0 ∧
        v.flipflop = .expectLowOrData ∧ v.ctrlLow = 0 ∧ v.rdlatch = 0 ∧ v.curline = 0 ∧
        (∀ n, v.regs.get n = s.cfg.vdpInit.get n &&& regMask n) ∧ VdpCoherent s.cfg v) ∧
      let base := { s with vdp := v, ic := ⟨false, none, false⟩, events := .backdrop v.bg :: s.events }
      (s.cfg.cpu = .z80 → t = { base with z := t.z } ∧
        t.z.pc = 0x0000 ∧ t.z.sp = 0xFFFF ∧ t.z.a = 0xFF ∧ t.z.f = 0xFF ∧ t.z.i = 0 ∧ t.z.r = 0 ∧ t.z.iff1 = false ∧
        t.z.iff2 = false ∧ t.z.im = .im0 ∧ t.z.icount = 0 ∧ t.z.ibackup = 0 ∧ t.z.grace = false ∧ t.z.halted = false) ∧
      (s.cfg.cpu = .m6502 →
        let lo := memRead 0xFFFC base
        let hi := memRead 0xFFFD lo.2
        t = { hi.2 with m := t.m } ∧ t.m.pc = mk16 hi.1 lo.1 ∧ t.m.s = 0xFD ∧ t.m.fi = true ∧ t.m.cycLine = 0 ∧ t.z = s.z) ∧
      t.mem = s.mem ∧ t.cfg = s.cfg) ∧
  (∀ cfg : Config,
    (cfg.lineOverride = none → cfg.region = .ntsc → cfg.totalLines = 262 ∧ cfg.startLine = 43 ∧ cfg.endLine = 235) ∧
    (cfg.lineOverride = none → cfg.region = .pal → cfg.totalLines = 313 ∧ cfg.startLine = 67 ∧ cfg.endLine = 259) ∧
    (∀ l, cfg.lineOverride = some l →
      cfg.totalLines = l.totalLines ∧ cfg.startLine = l.startLine ∧ cfg.endLine = l.endLine)) ∧
  ∀ cfg : Config, cfg.wf = true → let s := State.resetWith cfg
    s = resetMachine (State.powerOn cfg) ∧ s.cfg = cfg ∧ s.mem = [] ∧
    InputsLegal s ∧ RamCanonical s ∧ VramCanonical s.vdp ∧ VdpLegal cfg s.vdp ∧ GraceLegal s

/-! ## Frames of every instruction -/

/-- An instruction leaves every byte of RAM alone but those at the addresses its rule stores to, computed by `storedAt`
(spec/20_memory.md R139 and the operation of each instruction's rule). -/
def Obligations.InstructionsStoreOnlyWhereTheirRulesSay : Prop :=
  ∀ (i : Instr) (s t : State) (a : Word), exec i s = .next t → a ∉ storedAt i s → t.ramByte a = s.ramByte a

/-- An instruction leaves alone every flag that its rule does not name, in `F` of the Z80 and in `P` of the 6502 (R230, R540). -/
def Obligations.InstructionsKeepTheFlagsTheyDoNotName : Prop :=
  ∀ (i : Instr) (s t : State), exec i s = .next t →
    t.z.f &&& keptFlags i = s.z.f &&& keptFlags i ∧
    t.m.pushedP false &&& keptStatus i = s.m.pushedP false &&& keptStatus i

/-- The alternate registers, `I`, `R`, `IFF1`, `IFF2`, `IM`, the halt bit and the grace state change only by the instructions whose
rules write them (spec/10_state.md R33, R39 to R42, R44, R45). -/
def Obligations.SpecialRegistersChangeOnlyByTheirInstructions : Prop :=
  ∀ (i : Instr) (s t : State), exec i s = .next t →
    (i ≠ .zExAfAf → t.z.aAlt = s.z.aAlt ∧ t.z.fAlt = s.z.fAlt) ∧
    (i ≠ .zExx → t.z.bAlt = s.z.bAlt ∧ t.z.cAlt = s.z.cAlt ∧ t.z.dAlt = s.z.dAlt ∧ t.z.eAlt = s.z.eAlt ∧ t.z.hAlt = s.z.hAlt ∧
      t.z.lAlt = s.z.lAlt) ∧
    (i ≠ .zLdIA → t.z.i = s.z.i) ∧
    (i ≠ .zLdRA → t.z.r = s.z.r) ∧
    (i ∉ [.zDi, .zEi, .zRetn, .zReti] → (∀ y, i ≠ .zRetnCopy y) → t.z.iff1 = s.z.iff1) ∧
    (i ∉ [.zDi, .zEi] → t.z.iff2 = s.z.iff2) ∧
    (i ∉ [.zIm0, .zIm1, .zIm2, .zIm0Copy4E, .zIm0Copy66, .zIm0Copy6E, .zIm1Copy, .zIm2Copy] → t.z.im = s.z.im) ∧
    (i ≠ .zHalt → t.z.halted = s.z.halted) ∧
    (i ≠ .zEi → t.z.grace = s.z.grace ∧ t.z.ibackup = s.z.ibackup)

/-- An instruction reaches the VDP and the latches only through the VDP's ports and `Inject`: both stay where nothing is routed to
the ports and the platform's replies (eight, more than any instruction takes) call nothing, and, for an instruction without
port accesses, where memory is plain RAM. On any platform no instruction withdraws a latched request (R142, R824, U12; routes and replies are the model's, log 4, log 5). -/
def Obligations.InstructionsReachTheVdpOnlyThroughItsPorts : Prop :=
  ∀ (i : Instr) (s t : State), exec i s = .next t →
    ((∀ a, routeOf s.cfg.memMap a ≠ some .vdpControl ∧ routeOf s.cfg.memMap a ≠ some .vdpData ∧
        routeOf s.cfg.portMap a ≠ some .vdpControl ∧ routeOf s.cfg.portMap a ≠ some .vdpData) →
      8 ≤ s.hookIn.length → (∀ r ∈ s.hookIn, r.calls = []) → t.vdp = s.vdp ∧ t.ic = s.ic) ∧
    ((∀ a, PlainAt s.cfg a) → i.usesPorts = false → t.vdp = s.vdp ∧ t.ic = s.ic) ∧
    (s.ic.nmi = true → t.ic.nmi = true) ∧ (s.ic.int.isSome = true → t.ic.int.isSome = true) ∧
    (s.ic.quit = true → t.ic.quit = true)

/-! ## Z80: loads, stores, stack -/

/-- The register moves: each register of a code reads back what was written and no other changes; `LD` between registers and with
immediates, `EX AF,AF'`, `EXX`, `EX DE,HL`, `LD SP`, and the moves of `I` and `R`, the last two with the flags of R245 and R246
(R231, R232, R245 to R250, R257, R258, R263 to R265, R503). -/
def Obligations.RegisterMovesGiveTheNamedRegisters : Prop :=
  (∀ (z : Z80) (r : Reg8) (v : Byte), (z.set8 r v).get8 r = v ∧ (∀ q, q ≠ r → (z.set8 r v).get8 q = z.get8 q)) ∧
  (∀ (z : Z80) (dd : RegSS) (v : Word), (z.setSS dd v).getSS dd = v ∧ (∀ q, q ≠ dd → (z.setSS dd v).getSS q = z.getSS q)) ∧
  (∀ (z : Z80) (xy : XYReg) (l : Half) (v : Byte), (z.setHalf xy l v).getHalf xy l = v ∧
    (∀ k, k ≠ l → (z.setHalf xy l v).getHalf xy k = z.getHalf xy k)) ∧
  ∀ s : State,
    (∀ r r', exec (.zLdRR r r') s = .next { s with z := s.z.set8 r (s.z.get8 r') }) ∧
    (∀ r n, exec (.zLdRN r n) s = .next { s with z := s.z.set8 r n }) ∧
    (∀ dd nn, exec (.zLdDdNn dd nn) s = .next { s with z := s.z.setSS dd nn }) ∧
    (∀ xy nn, exec (.zLdXyNn xy nn) s = .next { s with z := s.z.setXY xy nn }) ∧
    exec .zLdSpHl s = .next { s with z := { s.z with sp := mk16 s.z.h s.z.l } } ∧
    (∀ xy, exec (.zLdSpXy xy) s = .next { s with z := { s.z with sp := s.z.getXY xy } }) ∧
    exec .zExAfAf s = .next { s with z := { s.z with a := s.z.aAlt, f := s.z.fAlt, aAlt := s.z.a, fAlt := s.z.f } } ∧
    exec .zExx s = .next { s with z := { s.z with
      b := s.z.bAlt, c := s.z.cAlt, d := s.z.dAlt, e := s.z.eAlt, h := s.z.hAlt, l := s.z.lAlt
      bAlt := s.z.b, cAlt := s.z.c, dAlt := s.z.d, eAlt := s.z.e, hAlt := s.z.h, lAlt := s.z.l } } ∧
    exec .zExDeHl s = .next { s with z := { s.z with d := s.z.h, e := s.z.l, h := s.z.d, l := s.z.e } } ∧
    exec .zLdIA s = .next { s with z := { s.z with i := s.z.a } } ∧
    exec .zLdRA s = .next { s with z := { s.z with r := s.z.a } } ∧
    (∃ f, exec .zLdAI s = .next { s with z := { s.z with a := s.z.i, f := f } } ∧
      FlagsAre f (128 ≤ s.z.i.toNat) (s.z.i = 0) (s.z.i.getLsbD 5) False (s.z.i.getLsbD 3) (s.z.iff2 = true) False
        (flagC s.z.f = true)) ∧
    (∃ f, exec .zLdAR s = .next { s with z := { s.z with a := s.z.r, f := f } } ∧
      FlagsAre f (128 ≤ s.z.r.toNat) (s.z.r = 0) (s.z.r.getLsbD 5) False (s.z.r.getLsbD 3) (s.z.iff2 = true) False
        (flagC s.z.f = true)) ∧
    (s.cfg.z80Undoc = true → ∀ xy l,
      (∀ n, exec (.zLdXyHalfN xy l n) s = .next { s with z := s.z.setHalf xy l n }) ∧
      (∀ r', exec (.zLdXyHalfR xy l r') s = .next { s with z := s.z.setHalf xy l (s.z.getXYOp xy r') }) ∧
      (∀ r, exec (.zLdRXyHalf xy r l) s = .next { s with z := s.z.set8 r (s.z.getHalf xy l) }))

/-- The loads from memory read the byte, or the low byte and then the high byte of the next address, through the platform's hook and
write the named register; the stores write in the same order and change no register (R233 to R244, R251 to R256, R135). -/
def Obligations.LoadsAndStoresGoThroughTheHook : Prop :=
  (∀ s : State,
    (∀ r, exec (.zLdRMemHl r) s =
      .next ((memRead (mk16 s.z.h s.z.l) s).2.onZ (Z80.set8 r (memRead (mk16 s.z.h s.z.l) s).1))) ∧
    (∀ xy r d, let ad := s.z.getXY xy + d.signExtend 16
      exec (.zLdRMemXy xy r d) s = .next ((memRead ad s).2.onZ (Z80.set8 r (memRead ad s).1))) ∧
    exec .zLdAMemBc s = .next ((memRead (mk16 s.z.b s.z.c) s).2.onZ fun z => { z with a := (memRead (mk16 s.z.b s.z.c) s).1 }) ∧
    exec .zLdAMemDe s = .next ((memRead (mk16 s.z.d s.z.e) s).2.onZ fun z => { z with a := (memRead (mk16 s.z.d s.z.e) s).1 }) ∧
    (∀ nn, exec (.zLdAMemNn nn) s = .next ((memRead nn s).2.onZ fun z => { z with a := (memRead nn s).1 })) ∧
    (∀ nn, let lo := memRead nn s
      let hi := memRead (nn + 1) lo.2
      exec (.zLdHlMemNn nn) s = .next (hi.2.onZ fun z => { z with l := lo.1, h := hi.1 }) ∧
      (∀ dd, exec (.zLdDdMemNn dd nn) s = .next (hi.2.onZ (Z80.setSS dd (mk16 hi.1 lo.1)))) ∧
      (∀ xy, exec (.zLdXyMemNn xy nn) s = .next (hi.2.onZ (Z80.setXY xy (mk16 hi.1 lo.1)))))) ∧
  (∀ s : State,
    exec .zLdMemBcA s = .next (memWrite (mk16 s.z.b s.z.c) s.z.a s) ∧
    exec .zLdMemDeA s = .next (memWrite (mk16 s.z.d s.z.e) s.z.a s) ∧
    (∀ nn, exec (.zLdMemNnA nn) s = .next (memWrite nn s.z.a s)) ∧
    (∀ r, exec (.zLdMemHlR r) s = .next (memWrite (mk16 s.z.h s.z.l) (s.z.get8 r) s)) ∧
    (∀ n, exec (.zLdMemHlN n) s = .next (memWrite (mk16 s.z.h s.z.l) n s)) ∧
    (∀ xy r d, exec (.zLdMemXyR xy r d) s = .next (memWrite (s.z.getXY xy + d.signExtend 16) (s.z.get8 r) s)) ∧
    (∀ xy d n, exec (.zLdMemXyN xy d n) s = .next (memWrite (s.z.getXY xy + d.signExtend 16) n s)) ∧
    (∀ nn, exec (.zLdMemNnHl nn) s = .next (memWrite (nn + 1) s.z.h (memWrite nn s.z.l s))) ∧
    (∀ dd nn, exec (.zLdMemNnDd dd nn) s =
      .next (memWrite (nn + 1) (hi8 (s.z.getSS dd)) (memWrite nn (lo8 (s.z.getSS dd)) s))) ∧
    (∀ xy nn, exec (.zLdMemNnXy xy nn) s =
      .next (memWrite (nn + 1) (hi8 (s.z.getXY xy)) (memWrite nn (lo8 (s.z.getXY xy)) s))))

/-- What the hooks do with an access (R131, R133, U12): every write is an output event. Outside the core a read is answered by an oracle,
the next reply or a free one, whose platform may meanwhile inject requests and call the VDP's ports; the same for a write. An
address or port routed to the VDP reaches its port, whose request is routed; plain RAM returns the last byte written, and a write
changes that byte only. The routes, the plain RAM and the form of a reply are the model's (log 4, log 5). -/
def Obligations.HooksRouteEachAccess : Prop :=
  (∀ (s : State) (a : Word) (v : Byte),
    let wrote := s.emit (.writeByte a v)
    let sent := s.emit (.outPort a v)
    let memReads := fun (r : HookReply) (u : State) =>
      memRead a s = (r.answer, (runCalls r.calls u).emit (.readByte a r.answer))
    let portReads := fun (r : HookReply) (u : State) =>
      portIn a s = (r.answer, (runCalls r.calls u).emit (.inPort a r.answer))
    (PlainAt s.cfg a → memRead a s = (s.ramByte a, s) ∧
      OnlyRamAt [a] s (memWrite a v s) ∧ (memWrite a v s).ramByte a = v ∧ (memWrite a v s).events = wrote.events) ∧
    (routeOf s.cfg.memMap a = some .vdpControl →
      memRead a s = readControlPort s ∧ memWrite a v s = routeIrq (writeControlPort v wrote)) ∧
    (routeOf s.cfg.memMap a = some .vdpData → memRead a s = readDataPort s ∧ memWrite a v s = writeDataPort v wrote) ∧
    (routeOf s.cfg.memMap a = none ∨ routeOf s.cfg.memMap a = some .external →
      (∀ r rest, s.hookIn = r :: rest →
        memReads r { s with hookIn := rest } ∧ memWrite a v s = runCalls r.calls { wrote with hookIn := rest }) ∧
      (s.hookIn = [] →
        (∃ r, memReads r { s with tick := s.tick + 1 }) ∧
        ∃ r : HookReply, memWrite a v s = runCalls r.calls { wrote with tick := s.tick + 1 })) ∧
    (routeOf s.cfg.portMap a = some .vdpControl →
      portIn a s = readControlPort s ∧ portOut a v s = routeIrq (writeControlPort v sent)) ∧
    (routeOf s.cfg.portMap a = some .vdpData → portIn a s = readDataPort s ∧ portOut a v s = writeDataPort v sent) ∧
    (routeOf s.cfg.portMap a ≠ some .vdpControl → routeOf s.cfg.portMap a ≠ some .vdpData →
      (∀ r rest, s.hookIn = r :: rest →
        portReads r { s with hookIn := rest } ∧ portOut a v s = runCalls r.calls { sent with hookIn := rest }) ∧
      (s.hookIn = [] →
        (∃ r, portReads r { s with tick := s.tick + 1 }) ∧
        ∃ r : HookReply, portOut a v s = runCalls r.calls { sent with tick := s.tick + 1 }))) ∧
  (∀ s : State,
    (∀ e, s.emit e = { s with events := e :: s.events }) ∧
    runCalls [] s = s ∧ (∀ c rest, runCalls (c :: rest) s = runCalls rest (runCall c s)) ∧
    (∀ req, runCall (.inject req) s = inject req s) ∧
    (∀ b, runCall (.writeControlPort b) s = routeIrq (writeControlPort b s)) ∧
    (∀ b, runCall (.writeDataPort b) s = writeDataPort b s) ∧
    (let r := readControlPort s
     runCall .readControlPort s = r.2.emit (.driverRead r.1)) ∧
    (let r := readDataPort s
     runCall .readDataPort s = r.2.emit (.driverRead r.1)))

/-- The stack: a push writes the high byte at `SP - 1` and the low byte at `SP - 2`, a pop reads them back the other way round,
`EX (SP)` swaps the word in place; and on plain RAM a pop gives back what the push before it took, from any register to any other (R136, R259 to
R262, R266, R267). -/
def Obligations.PushPopAndExchangeKeepTheStackDiscipline : Prop :=
  (∀ s : State, let sp := s.z.sp
    let push := fun v => (memWrite (sp - 2) (lo8 v) (memWrite (sp - 1) (hi8 v) s)).onZ fun z => { z with sp := sp - 2 }
    let lo := memRead sp s
    let hi := memRead (sp + 1) lo.2
    let swap := fun v => memWrite sp (lo8 v) (memWrite (sp + 1) (hi8 v) hi.2)
    (∀ qq, exec (.zPushQq qq) s = .next (push (s.z.getQQ qq))) ∧
    (∀ xy, exec (.zPushXy xy) s = .next (push (s.z.getXY xy))) ∧
    (∀ qq, exec (.zPopQq qq) s = .next (hi.2.onZ fun z => { z with sp := sp + 2 }.setQQ qq (mk16 hi.1 lo.1))) ∧
    (∀ xy, exec (.zPopXy xy) s = .next (hi.2.onZ fun z => { z with sp := sp + 2 }.setXY xy (mk16 hi.1 lo.1))) ∧
    exec .zExMemSpHl s = .next ((swap (mk16 s.z.h s.z.l)).onZ fun z => { z with l := lo.1, h := hi.1 }) ∧
    (∀ xy, exec (.zExMemSpXy xy) s = .next ((swap (s.z.getXY xy)).onZ (Z80.setXY xy (mk16 hi.1 lo.1))))) ∧
  (∀ (s : State) (p q : RegQQ), PlainAt s.cfg (s.z.sp - 1) → PlainAt s.cfg (s.z.sp - 2) →
    ∃ t u, exec (.zPushQq p) s = .next t ∧ exec (.zPopQq q) t = .next u ∧
      u.z = s.z.setQQ q (s.z.getQQ p) ∧
      t.ramByte (s.z.sp - 1) = hi8 (s.z.getQQ p) ∧ t.ramByte (s.z.sp - 2) = lo8 (s.z.getQQ p))

/-! ## Z80: arithmetic and logic -/

/-- `ADD A,s` and `ADC A,s` on every operand form: the sum modulo 256, and the eight flags from the true sum (R291, R296, R297). -/
def Obligations.AddGivesTheSumAndItsFlags : Prop :=
  ∀ (withCarry : Bool) (o : Source8) (s : State), o.available s.cfg →
    let a := s.z.a
    let v := (o.read s).1
    let c := if withCarry ∧ flagC s.z.f then 1 else 0
    let total := a.toNat + v.toNat + c
    let res := BitVec.ofNat 8 total
    ∃ f, exec (addInstr withCarry o) s = .next ((o.read s).2.onZ fun z => { z with a := res, f := f }) ∧
      FlagsAre f (128 ≤ res.toNat) (total % 256 = 0) (res.getLsbD 5) (15 < a.toNat % 16 + v.toNat % 16 + c) (res.getLsbD 3)
        (Overflows8 (a.toInt + v.toInt + c)) False (255 < total)

/-- `SUB s`, `SBC A,s` and `CP s` on every operand form: the difference modulo 256, and the eight flags from the true difference;
`CP` keeps `A` and takes two flag bits from the operand (R292, R298, R299, R303). -/
def Obligations.SubtractAndCompareGiveTheDifferenceAndItsFlags : Prop :=
  ∀ (o : Source8) (s : State), o.available s.cfg →
    let a := s.z.a
    let v := (o.read s).1
    (∀ withCarry : Bool,
      let c : Int := if withCarry ∧ flagC s.z.f then 1 else 0
      let total := (a.toNat : Int) - v.toNat - c
      let res := BitVec.ofInt 8 total
      ∃ f, exec (subInstr withCarry o) s = .next ((o.read s).2.onZ fun z => { z with a := res, f := f }) ∧
        FlagsAre f (128 ≤ res.toNat) (res = 0) (res.getLsbD 5) ((a.toNat % 16 : Int) - v.toNat % 16 - c < 0) (res.getLsbD 3)
          (Overflows8 (a.toInt - v.toInt - c)) True (total < 0)) ∧
    (∃ f, exec (cpInstr o) s = .next ((o.read s).2.onZ fun z => { z with f := f }) ∧
      FlagsAre f (128 ≤ (a - v).toNat) (a = v) (v.getLsbD 5) (a.toNat % 16 < v.toNat % 16) (v.getLsbD 3)
        (Overflows8 (a.toInt - v.toInt)) True (a.toNat < v.toNat))

/-- `AND s`, `XOR s` and `OR s` on every operand form, with parity (R293, R300 to R302). -/
def Obligations.LogicGivesTheBitsAndTheirParity : Prop :=
  ∀ (o : Source8) (s : State), o.available s.cfg →
    let v := (o.read s).1
    let runs := fun (i : Instr) (res : Byte) (h : Prop) =>
      ∃ f, exec i s = .next ((o.read s).2.onZ fun z => { z with a := res, f := f }) ∧
        FlagsAre f (128 ≤ res.toNat) (res = 0) (res.getLsbD 5) h (res.getLsbD 3) (EvenOnes res) False False
    runs (andInstr o) (s.z.a &&& v) True ∧ runs (xorInstr o) (s.z.a ^^^ v) False ∧ runs (orInstr o) (s.z.a ||| v) False

/-- `INC` and `DEC` of a register, of memory and of half an index register: read, then write in the same place; `C` stays (R294,
R304 to R309, R503). -/
def Obligations.IncrementAndDecrementWorkInPlace : Prop :=
  ∀ (p : Place8) (s : State), s.cfg.z80Undoc = true ∨ (∀ xy l, p ≠ .half xy l) →
    let v := (p.read s).1
    let runs := fun (i : Instr) (res : Byte) (h pv n : Prop) =>
      ∃ f, exec i s = .next ((p.write res (p.read s).2).onZ fun z => { z with f := f }) ∧
        FlagsAre f (128 ≤ res.toNat) (res = 0) (res.getLsbD 5) h (res.getLsbD 3) pv n (flagC s.z.f = true)
    (∀ i, incInstr p = some i → runs i (v + 1) (v.toNat % 16 = 15) (v = 0x7F) False) ∧
    (∀ i, decInstr p = some i → runs i (v - 1) (v.toNat % 16 = 0) (v = 0x80) True)

/-- The 16-bit arithmetic: `ADD HL,ss`, `ADD XY,pp`, `ADC HL,ss`, `SBC HL,ss` with their flags, `INC` and `DEC` of a pair without any
(R315 to R322). -/
def Obligations.WideArithmeticGivesSumsAndFlags : Prop :=
  (∀ (s : State) (ss : RegSS),
    let x := mk16 s.z.h s.z.l
    let y := s.z.getSS ss
    let c := if flagC s.z.f then 1 else 0
    (∃ f, exec (.zAddHlSs ss) s = .next { s with z := { s.z with h := hi8 (x + y), l := lo8 (x + y), f := f } } ∧
      FlagsAre f (flagS s.z.f) (flagZ s.z.f) ((x + y).getLsbD 13) (4095 < x.toNat % 4096 + y.toNat % 4096) ((x + y).getLsbD 11)
        (flagPV s.z.f) False (65535 < x.toNat + y.toNat)) ∧
    (let total := x.toNat + y.toNat + c
     let res := BitVec.ofNat 16 total
     ∃ f, exec (.zAdcHlSs ss) s = .next { s with z := { s.z with h := hi8 res, l := lo8 res, f := f } } ∧
      FlagsAre f (32768 ≤ res.toNat) (res = 0) (res.getLsbD 13) (4095 < x.toNat % 4096 + y.toNat % 4096 + c) (res.getLsbD 11)
        (Overflows16 (x.toInt + y.toInt + c)) False (65535 < total)) ∧
    (let total := (x.toNat : Int) - y.toNat - c
     let res := BitVec.ofInt 16 total
     ∃ f, exec (.zSbcHlSs ss) s = .next { s with z := { s.z with h := hi8 res, l := lo8 res, f := f } } ∧
      FlagsAre f (32768 ≤ res.toNat) (res = 0) (res.getLsbD 13) ((x.toNat % 4096 : Int) - y.toNat % 4096 - c < 0)
        (res.getLsbD 11) (Overflows16 (x.toInt - y.toInt - c)) True (total < 0)) ∧
    exec (.zIncSs ss) s = .next { s with z := s.z.setSS ss (s.z.getSS ss + 1) } ∧
    exec (.zDecSs ss) s = .next { s with z := s.z.setSS ss (s.z.getSS ss - 1) }) ∧
  (∀ (s : State) (xy : XYReg),
    (∀ pp, let x := s.z.getXY xy
      let y := s.z.getPP xy pp
      ∃ f, exec (.zAddXyPp xy pp) s = .next { s with z := { s.z.setXY xy (x + y) with f := f } } ∧
        FlagsAre f (flagS s.z.f) (flagZ s.z.f) ((x + y).getLsbD 13) (4095 < x.toNat % 4096 + y.toNat % 4096)
          ((x + y).getLsbD 11) (flagPV s.z.f) False (65535 < x.toNat + y.toNat)) ∧
    exec (.zIncXy xy) s = .next { s with z := s.z.setXY xy (s.z.getXY xy + 1) } ∧
    exec (.zDecXy xy) s = .next { s with z := s.z.setXY xy (s.z.getXY xy - 1) })

/-- `DAA` by the correction of R310; after an addition or a subtraction of packed-decimal operands it gives the packed-decimal
result and the decimal carry (R310). -/
def Obligations.DaaAdjustsToPackedDecimal : Prop :=
  (∀ s : State,
    let a := s.z.a
    let low := if flagH s.z.f = true ∨ 9 < a.toNat % 16 then 0x06 else 0
    let high := if flagC s.z.f = true ∨ 0x99 < a.toNat then 0x60 else 0
    let res := if flagN s.z.f = true then a - BitVec.ofNat 8 (low + high) else a + BitVec.ofNat 8 (low + high)
    ∃ f, exec .zDaa s = .next { s with z := { s.z with a := res, f := f } } ∧
      FlagsAre f (128 ≤ res.toNat) (res = 0) (res.getLsbD 5)
        ((flagN s.z.f = false ∧ 9 < a.toNat % 16) ∨ (flagN s.z.f = true ∧ flagH s.z.f = true ∧ a.toNat % 16 < 6))
        (res.getLsbD 3) (EvenOnes res) (flagN s.z.f = true) (flagC s.z.f = true ∨ 0x99 < a.toNat)) ∧
  (∀ (s : State) (x y : Nat), x < 100 → y < 100 →
    let packed := fun n : Nat => BitVec.ofNat 8 (16 * (n / 10) + n % 10)
    s.z.a = packed x →
      (∃ t u, exec (.zAddAN (packed y)) s = .next t ∧ exec .zDaa t = .next u ∧
        u.z.a = packed ((x + y) % 100) ∧ (flagC u.z.f = true ↔ 100 ≤ x + y)) ∧
      (∃ t u, exec (.zSubN (packed y)) s = .next t ∧ exec .zDaa t = .next u ∧
        u.z.a = packed ((x + 100 - y) % 100) ∧ (flagC u.z.f = true ↔ x < y)))

/-- `CPL`, `NEG` and its undocumented copies, `CCF`, `SCF` (R311 to R314, R507). -/
def Obligations.ComplementNegateAndCarryOperations : Prop :=
  ∀ s : State,
    let a := s.z.a
    let f0 := s.z.f
    (∃ f, exec .zCpl s = .next { s with z := { s.z with a := ~~~a, f := f } } ∧
      FlagsAre f (flagS f0) (flagZ f0) ((~~~a).getLsbD 5) True ((~~~a).getLsbD 3) (flagPV f0) True (flagC f0)) ∧
    (∀ i, i = .zNeg ∨ (s.cfg.z80Undoc = true ∧ ∃ y, i = .zNegCopy y) →
      ∃ f, exec i s = .next { s with z := { s.z with a := -a, f := f } } ∧
        FlagsAre f (128 ≤ (-a).toNat) (a = 0) ((-a).getLsbD 5) (a.toNat % 16 ≠ 0) ((-a).getLsbD 3) (a = 0x80) True (a ≠ 0)) ∧
    (∃ f, exec .zCcf s = .next { s with z := { s.z with f := f } } ∧
      FlagsAre f (flagS f0) (flagZ f0) (a.getLsbD 5) (flagC f0) (a.getLsbD 3) (flagPV f0) False (flagC f0 = false)) ∧
    (∃ f, exec .zScf s = .next { s with z := { s.z with f := f } } ∧
      FlagsAre f (flagS f0) (flagZ f0) (a.getLsbD 5) False (a.getLsbD 3) (flagPV f0) False True)

/-! ## Z80: rotates, shifts, bits -/

/-- `RLCA`, `RRCA`, `RLA`, `RRA` keep `S`, `Z`, `PV`; `RLD` and `RRD` turn the three digits of `A` and memory (R351 to R354, R363,
R364). -/
def Obligations.AccumulatorAndDigitRotates : Prop :=
  (∀ (s : State) (rot : Rot) (i : Instr),
    (rot, i) ∈ [(.rlc, .zRlca), (.rrc, .zRrca), (.rl, .zRla), (.rr, .zRra)] →
      let n := shiftNumbers rot s.z.a.toNat (flagC s.z.f).toNat
      let res := BitVec.ofNat 8 n.1
      ∃ f, exec i s = .next { s with z := { s.z with a := res, f := f } } ∧
        FlagsAre f (flagS s.z.f) (flagZ s.z.f) (res.getLsbD 5) False (res.getLsbD 3) (flagPV s.z.f) False (n.2 = 1)) ∧
  (∀ s : State,
    let ad := mk16 s.z.h s.z.l
    let r := memRead ad s
    let v := r.1.toNat
    let a := s.z.a.toNat
    let runs := fun (i : Instr) (mem acc : Byte) =>
      ∃ f, exec i s = .next ((memWrite ad mem r.2).onZ fun z => { z with a := acc, f := f }) ∧
        FlagsAre f (128 ≤ acc.toNat) (acc = 0) (acc.getLsbD 5) False (acc.getLsbD 3) (EvenOnes acc) False (flagC s.z.f)
    runs .zRld (BitVec.ofNat 8 (16 * (v % 16) + a % 16)) (BitVec.ofNat 8 (16 * (a / 16) + v / 16)) ∧
    runs .zRrd (BitVec.ofNat 8 (16 * (a % 16) + v / 16)) (BitVec.ofNat 8 (16 * (a / 16) + v % 16)))

/-- The eight rotates and shifts of a register, of memory, and of memory with a copy to a register: the result and the bit shifted
out as numbers, and the common flags (R350, R355 to R361, R504, R505). -/
def Obligations.RotatesAndShiftsWorkInPlace : Prop :=
  ∀ (rot : Rot) (p : Place8) (i : Instr) (s : State), rotInstr rot p = some i →
    (rotUndocumented rot p → s.cfg.z80Undoc = true) →
    let n := shiftNumbers rot (p.read s).1.toNat (flagC s.z.f).toNat
    let res := BitVec.ofNat 8 n.1
    ∃ f, exec i s = .next ((p.write res (p.read s).2).onZ fun z => { z with f := f }) ∧
      FlagsAre f (128 ≤ res.toNat) (res = 0) (res.getLsbD 5) False (res.getLsbD 3) (EvenOnes res) False (n.2 = 1)

/-- `BIT` tests one bit and writes flags only; after `BIT b,(HL)` nothing is said of `F5` and `F3`, whose values are free (log 8).
`SET` and `RES` write that one bit in place and no flag (R365 to R369, R505, R506). -/
def Obligations.BitTestsSetsAndResets : Prop :=
  (∀ (s : State) (b : BitVec 3),
    let tested := fun (v f : Byte) =>
      (flagZ f = true ↔ v.getLsbD b.toNat = false) ∧ (flagPV f = true ↔ v.getLsbD b.toNat = false) ∧
      (flagS f = true ↔ b = 7 ∧ v.getLsbD 7 = true) ∧ flagH f = true ∧ flagN f = false ∧ flagC f = flagC s.z.f
    (∀ r, ∃ f, exec (.zBitBR b r) s = .next { s with z := { s.z with f := f } } ∧ tested (s.z.get8 r) f ∧
      flag5 f = (s.z.get8 r).getLsbD 5 ∧ flag3 f = (s.z.get8 r).getLsbD 3) ∧
    (∃ f, exec (.zBitBMemHl b) s =
        .next ({ (memRead (mk16 s.z.h s.z.l) s).2 with tick := (memRead (mk16 s.z.h s.z.l) s).2.tick + 1 }.onZ
          fun z => { z with f := f }) ∧
      tested (memRead (mk16 s.z.h s.z.l) s).1 f) ∧
    (∀ xy d i, i = .zBitBMemXy xy d b ∨ (s.cfg.z80Undoc = true ∧ ∃ z, i = .zBitBMemXyZ xy d b z) →
      let ad := s.z.getXY xy + d.signExtend 16
      ∃ f, exec i s = .next ((memRead ad s).2.onZ fun z => { z with f := f }) ∧
        tested (memRead ad s).1 f ∧ flag5 f = ad.getLsbD 13 ∧ flag3 f = ad.getLsbD 11)) ∧
  (∀ (s : State) (b : BitVec 3) (p : Place8) (i : Instr),
    s.cfg.z80Undoc = true ∨ (∀ xy d r, p ≠ .copy xy d r) →
    let runs := fun (new : Bool) => ∃ res : Byte,
      (∀ k, k < 8 → res.getLsbD k = if k = b.toNat then new else (p.read s).1.getLsbD k) ∧
      exec i s = .next (p.write res (p.read s).2)
    (setInstr b p = some i → runs true) ∧ (resInstr b p = some i → runs false))

/-! ## Z80: jumps, calls, control -/

/-- The conditions test one flag each, and the jumps load `pc`, on the taken path with its extra cycles; no flag is written (R400 to
R407, R935). -/
def Obligations.JumpsFollowTheirConditions : Prop :=
  (∀ f : Byte,
    (holds8 .nz f = !flagZ f) ∧ (holds8 .z f = flagZ f) ∧ (holds8 .nc f = !flagC f) ∧ (holds8 .c f = flagC f) ∧
    (holds8 .po f = !flagPV f) ∧ (holds8 .pe f = flagPV f) ∧ (holds8 .p f = !flagS f) ∧ (holds8 .m f = flagS f) ∧
    (holds4 .nz f = !flagZ f) ∧ (holds4 .z f = flagZ f) ∧ (holds4 .nc f = !flagC f) ∧ (holds4 .c f = flagC f)) ∧
  (∀ s : State,
    let goes := fun (target : Word) (cycles : Nat) =>
      { s with z := { s.z with pc := target, icount := s.z.icount - cycles } }
    (∀ nn, exec (.zJpNn nn) s = .next (goes nn 0)) ∧
    (∀ cc nn, exec (.zJpCcNn cc nn) s = .next (if holds8 cc s.z.f = true then goes nn 0 else s)) ∧
    (∀ e, exec (.zJr e) s = .next (goes (s.z.pc + e.signExtend 16) 0)) ∧
    (∀ cc e, exec (.zJrCc cc e) s =
      .next (if holds4 cc s.z.f = true then goes (s.z.pc + e.signExtend 16) s.cfg.cyc.jrTaken else s)) ∧
    exec .zJpHl s = .next (goes (mk16 s.z.h s.z.l) 0) ∧
    (∀ xy, exec (.zJpXy xy) s = .next (goes (s.z.getXY xy) 0)) ∧
    (∀ e, exec (.zDjnz e) s = .next (if s.z.b = 1 then { s with z := { s.z with b := 0 } } else
      { s with z := { s.z with b := s.z.b - 1, pc := s.z.pc + e.signExtend 16, icount := s.z.icount - s.cfg.cyc.djnzTaken } })))

/-- Calls and restarts push the address after the instruction and load `pc`; returns pop it, `RETI` and `RETN` copy `IFF2` to `IFF1`
(R408 to R414, R507, R840, R935). -/
def Obligations.CallsRestartsAndReturns : Prop :=
  ∀ s : State, let sp := s.z.sp
    let calls := fun (target : Word) (cycles : Nat) =>
      (memWrite (sp - 2) (lo8 s.z.pc) (memWrite (sp - 1) (hi8 s.z.pc) s)).onZ fun z =>
        { z with sp := sp - 2, pc := target, icount := z.icount - cycles }
    let lo := memRead sp s
    let hi := memRead (sp + 1) lo.2
    let returns := fun (cycles : Nat) =>
      hi.2.onZ fun z => { z with sp := sp + 2, pc := mk16 hi.1 lo.1, icount := z.icount - cycles }
    (∀ nn, exec (.zCallNn nn) s = .next (calls nn 0)) ∧
    (∀ cc nn, exec (.zCallCcNn cc nn) s = .next (if holds8 cc s.z.f = true then calls nn s.cfg.cyc.callTaken else s)) ∧
    (∀ t, exec (.zRst t) s = .next (calls (BitVec.ofNat 16 (8 * t.toNat)) 0)) ∧
    exec .zRet s = .next (returns 0) ∧
    (∀ cc, exec (.zRetCc cc) s = .next (if holds8 cc s.z.f = true then returns s.cfg.cyc.retTaken else s)) ∧
    exec .zReti s = .next ((returns 0).onZ fun z => { z with iff1 := s.z.iff2 }) ∧
    exec .zRetn s = .next ((returns 0).onZ fun z => { z with iff1 := s.z.iff2 }) ∧
    (s.cfg.z80Undoc = true → ∀ y, exec (.zRetnCopy y) s = .next ((returns 0).onZ fun z => { z with iff1 := s.z.iff2 }))

/-- `NOP` and an ignored prefix do nothing more, `HALT` points back at itself, `DI`, `EI` and `IM` write the interrupt state, `EI`
opening the grace window (R415 to R421, R502, R507, R511, R838). -/
def Obligations.ControlInstructionsWriteTheInterruptState : Prop :=
  ∀ s : State,
    let mode := fun m => { s with z := { s.z with im := m } }
    exec .zNop s = .next s ∧
    (∀ xy b, exec (.zPrefix xy b) s = .next s) ∧
    (∀ xy xy', exec (.zPrefixPrefix xy xy') s = .next s) ∧
    exec .zHalt s = .next { s with z := { s.z with halted := true, pc := s.z.pc - 1 } } ∧
    exec .zDi s = .next { s with z := { s.z with iff1 := false, iff2 := false } } ∧
    (s.z.grace = false → exec .zEi s = .next { s with z := { s.z with
      iff1 := true, iff2 := true, ibackup := s.z.icount, icount := 1, grace := true } }) ∧
    (s.z.grace = true → exec .zEi s = .next { s with z := { s.z with
      iff1 := true, iff2 := true, ibackup := s.z.ibackup + s.z.icount - 1, icount := 1 } }) ∧
    exec .zIm0 s = .next (mode .im0) ∧ exec .zIm1 s = .next (mode .im1) ∧ exec .zIm2 s = .next (mode .im2) ∧
    (s.cfg.z80Undoc = true →
      exec .zIm0Copy4E s = .next (mode .im0) ∧ exec .zIm0Copy66 s = .next (mode .im0) ∧ exec .zIm0Copy6E s = .next (mode .im0) ∧
      exec .zIm1Copy s = .next (mode .im1) ∧ exec .zIm2Copy s = .next (mode .im2))

/-! ## Z80: blocks, input and output -/

/-- `LDI`, `LDD`, `CPI`, `CPD` and their repeating forms: one iteration, then the test that sends `pc` back to the instruction with the
extra cycles (R450 to R458, R935). -/
def Obligations.BlockTransferAndSearch : Prop :=
  (∀ (s : State) (step : Word) (move search : Instr), (step, move, search) ∈ [(1, .zLdi, .zCpi), (-1, .zLdd, .zCpd)] →
    let r := memRead (mk16 s.z.h s.z.l) s
    let bc := mk16 s.z.b s.z.c - 1
    let hl := mk16 s.z.h s.z.l + step
    let de := mk16 s.z.d s.z.e + step
    let n := s.z.a + r.1
    let diff := s.z.a - r.1
    let half := s.z.a.toNat % 16 < r.1.toNat % 16
    let m := if half then diff - 1 else diff
    (∃ f, exec move s = .next ((memWrite (mk16 s.z.d s.z.e) r.1 r.2).onZ fun z =>
        { z with h := hi8 hl, l := lo8 hl, d := hi8 de, e := lo8 de, b := hi8 bc, c := lo8 bc, f := f }) ∧
      FlagsAre f (flagS s.z.f) (flagZ s.z.f) (n.getLsbD 1) False (n.getLsbD 3) (bc ≠ 0) False (flagC s.z.f)) ∧
    (∃ f, exec search s = .next (r.2.onZ fun z => { z with h := hi8 hl, l := lo8 hl, b := hi8 bc, c := lo8 bc, f := f }) ∧
      FlagsAre f (128 ≤ diff.toNat) (s.z.a = r.1) (m.getLsbD 1) half (m.getLsbD 3) (bc ≠ 0) True (flagC s.z.f))) ∧
  (∀ (s : State) (single again : Instr),
    let back := fun (t : State) =>
      { t with z := { t.z with pc := t.z.pc - 2, icount := t.z.icount - s.cfg.cyc.blockRepeat } }
    ((single, again) ∈ [(.zLdi, .zLdir), (.zLdd, .zLddr)] → ∃ t, exec single s = .next t ∧
      exec again s = .next (if mk16 t.z.b t.z.c ≠ 0 then back t else t)) ∧
    ((single, again) ∈ [(.zCpi, .zCpir), (.zCpd, .zCpdr)] → ∃ t, exec single s = .next t ∧
      exec again s = .next (if mk16 t.z.b t.z.c ≠ 0 ∧ flagZ t.z.f = false then back t else t)))

/-- `INI`, `IND`, `OUTI`, `OUTD` and their repeating forms: one transfer between memory and the port `BC`, with `B` decremented after
an input and before an output, and the flags of R461 and R467 (R461 to R464, R467 to R470, R935). -/
def Obligations.BlockInputAndOutput : Prop :=
  (∀ (s : State) (step : Word) (j : Byte) (input output : Instr),
    (step, j, input, output) ∈ [(1, 1, .zIni, .zOuti), (-1, -1, .zInd, .zOutd)] →
    let hl := mk16 s.z.h s.z.l
    let b := s.z.b - 1
    let flags := fun (f t : Byte) (k : Nat) => FlagsAre f (128 ≤ b.toNat) (b = 0) (b.getLsbD 5) (255 < k) (b.getLsbD 3)
      (EvenOnes (BitVec.ofNat 8 (k % 8) ^^^ b)) (128 ≤ t.toNat) (255 < k)
    (let r := portIn (mk16 s.z.b s.z.c) s
     ∃ f, exec input s = .next ((memWrite hl r.1 r.2).onZ fun z =>
        { z with h := hi8 (hl + step), l := lo8 (hl + step), b := b, f := f }) ∧
      flags f r.1 (r.1.toNat + (s.z.c + j).toNat)) ∧
    (let r := memRead hl s
     ∃ f, exec output s = .next ((portOut (mk16 b s.z.c) r.1 r.2).onZ fun z =>
        { z with h := hi8 (hl + step), l := lo8 (hl + step), b := b, f := f }) ∧
      flags f r.1 (r.1.toNat + (lo8 (hl + step)).toNat))) ∧
  (∀ (s : State) (single again : Instr),
    (single, again) ∈ [(.zIni, .zInir), (.zInd, .zIndr), (.zOuti, .zOtir), (.zOutd, .zOtdr)] →
    ∃ t, exec single s = .next t ∧ exec again s = .next (if t.z.b ≠ 0 then
      { t with z := { t.z with pc := t.z.pc - 2, icount := t.z.icount - s.cfg.cyc.blockRepeat } } else t))

/-- The single input and output instructions: the port address, the register, and the flags of `IN r,(C)` and `IN F,(C)` (R459, R460,
R465, R466, R508, R509). -/
def Obligations.PortInstructionsUseTheWholePortAddress : Prop :=
  ∀ s : State,
    let bc := mk16 s.z.b s.z.c
    let flags := fun (f v : Byte) => FlagsAre f (128 ≤ v.toNat) (v = 0) (v.getLsbD 5) False (v.getLsbD 3) (EvenOnes v) False
      (flagC s.z.f)
    (∀ n, exec (.zInAN n) s = .next ((portIn (mk16 s.z.a n) s).2.onZ fun z => { z with a := (portIn (mk16 s.z.a n) s).1 })) ∧
    (∀ n, exec (.zOutNA n) s = .next (portOut (mk16 s.z.a n) s.z.a s)) ∧
    (∀ r, ∃ f, exec (.zInRC r) s =
        .next ((portIn bc s).2.onZ fun z => { z with f := f }.set8 r (portIn bc s).1) ∧ flags f (portIn bc s).1) ∧
    (∀ r, exec (.zOutCR r) s = .next (portOut bc (s.z.get8 r) s)) ∧
    (s.cfg.z80Undoc = true →
      (∃ f, exec .zInFC s = .next ((portIn bc s).2.onZ fun z => { z with f := f }) ∧ flags f (portIn bc s).1) ∧
      exec .zOutC0 s = .next (portOut bc 0x00 s))

/-- The illegal-opcode policy of both variants: the diagnostic hook when traps are on, and nothing else; with `CFG.z80_undoc` false
the undocumented encodings of the Z80 fall under it too (R500, R510, R648, R821, R822, log 16). -/
def Obligations.IllegalOpcodesOnlyCallTheHook : Prop :=
  ∀ s : State,
    let hooked := fun (addr : Word) (bytes : List Byte) =>
      if s.cfg.trapBadOps = true then { s with events := .illegalOp addr bytes :: s.events } else s
    (∀ op, exec (.zIllegalEd op) s = .next (hooked (s.z.pc - 2) [0xED, op])) ∧
    (∀ op, exec (.mIllegal op) s = .next (hooked (s.m.pc - 1) [op])) ∧
    (s.cfg.z80Undoc = false → ∀ i : Instr, i.isUndocumented = true →
      exec i s = .next (hooked (s.z.pc - BitVec.ofNat 16 (encode i).length) (encode i)))

/-! ## 6502 -/

/-- The addressing modes over plain memory: base and effective address, zero page wrapping in page 0, pointers from page 0, `JMP
(abs)` reading both pointer bytes from one page; nothing is changed by forming an address (R545 to R553, R626). -/
def Obligations.AddressingModesFormTheirAddresses : Prop :=
  ∀ s : State, (∀ a, PlainAt s.cfg a) →
    let page0 := fun (b : Byte) => s.ramByte (b.setWidth 16)
    let x := s.m.x
    let y := s.m.y
    (∀ b, addressOf (.zp b) s = ((b.setWidth 16, b.setWidth 16), s)) ∧
    (∀ b, addressOf (.zpx b) s = (((b + x).setWidth 16, (b + x).setWidth 16), s)) ∧
    (∀ b, addressOf (.zpy b) s = (((b + y).setWidth 16, (b + y).setWidth 16), s)) ∧
    (∀ a, addressOf (.abs a) s = ((a, a), s)) ∧
    (∀ a, addressOf (.abx a) s = ((a, a + x.setWidth 16), s)) ∧
    (∀ a, addressOf (.aby a) s = ((a, a + y.setWidth 16), s)) ∧
    (∀ b, let p := mk16 (page0 (b + x + 1)) (page0 (b + x))
      addressOf (.izx b) s = ((p, p), s)) ∧
    (∀ b, let p := mk16 (page0 (b + 1)) (page0 b)
      addressOf (.izy b) s = ((p, p + y.setWidth 16), s)) ∧
    (∀ ptr, exec (.mJmpInd ptr) s = .next { s with m := { s.m with
      pc := mk16 (s.ramByte (mk16 (hi8 ptr) (lo8 ptr + 1))) (s.ramByte ptr) } })

/-- `LDA`, `AND`, `EOR`, `ORA` and `CMP` in every mode: the operand read with the page-crossing penalty, `A`, `N`, `Z`, and `C` after a
compare; `V` stays (R541, R555, R556, R572 to R574, R580). -/
def Obligations.AccumulatorReadsInEveryMode : Prop :=
  ∀ (op : AccOp) (o : SourceM) (i : Instr) (s : State), accInstr op o = some i →
    let v := (o.read s).1
    let a := s.m.a
    let takes := fun (res : Byte) => exec i s = .next ((o.read s).2.onM fun m =>
      { m with a := res, fn := decide (128 ≤ res.toNat), fz := decide (res = 0) })
    (op = .lda → takes v) ∧ (op = .and → takes (a &&& v)) ∧ (op = .eor → takes (a ^^^ v)) ∧ (op = .ora → takes (a ||| v)) ∧
    (op = .cmp → exec i s = .next ((o.read s).2.onM fun m =>
      { m with fn := decide (128 ≤ (a - v).toNat), fz := decide (a = v), fc := decide (v.toNat ≤ a.toNat) }))

/-- `ADC` and `SBC` in every mode: binary sums and differences with signed overflow; in decimal mode the results and flags of R577 and
R579, which on packed-decimal operands are the decimal sum and difference (R576 to R579). -/
def Obligations.AdcAndSbcInBothModes : Prop :=
  (∀ (o : SourceM) (i : Instr) (s : State),
    let v := (o.read s).1
    let a := s.m.a
    let c := if s.m.fc then 1 else 0
    let low := a.toNat % 16 + v.toNat % 16 + c
    let low' := if 10 ≤ low then (low + 6) % 16 + 16 else low
    let t := a.toNat / 16 * 16 + v.toNat / 16 * 16 + low'
    let t' := if 160 ≤ t then t + 96 else t
    let tb := BitVec.ofNat 8 t
    accInstr .adc o = some i →
      (s.m.fd = false → exec i s = .next ((o.read s).2.onM fun m => { m with
        a := BitVec.ofNat 8 (a.toNat + v.toNat + c)
        fn := decide (128 ≤ (a.toNat + v.toNat + c) % 256)
        fv := decide (a.toInt + v.toInt + c < -128 ∨ 127 < a.toInt + v.toInt + c)
        fz := decide ((a.toNat + v.toNat + c) % 256 = 0)
        fc := decide (256 ≤ a.toNat + v.toNat + c) })) ∧
      (s.m.fd = true → exec i s = .next ((o.read s).2.onM fun m => { m with
        a := BitVec.ofNat 8 t'
        fn := tb.getLsbD 7
        fv := (a ^^^ tb).getLsbD 7 && (v ^^^ tb).getLsbD 7
        fz := decide ((a.toNat + v.toNat + c) % 256 = 0)
        fc := decide (256 ≤ t') }))) ∧
  (∀ (o : SourceM) (i : Instr) (s : State),
    let v := (o.read s).1
    let a := s.m.a
    let borrow : Int := if s.m.fc then 0 else 1
    let diff := (a.toNat : Int) - v.toNat - borrow
    let low := ((a.toNat % 16 : Nat) : Int) - (v.toNat % 16 : Nat) - borrow
    let low' := if low < 0 then (low - 6) % 16 - 16 else low
    let t := ((a.toNat / 16 * 16 : Nat) : Int) - (v.toNat / 16 * 16 : Nat) + low'
    let t' := if t < 0 then t - 96 else t
    accInstr .sbc o = some i →
      exec i s = .next ((o.read s).2.onM fun m => { m with
        a := BitVec.ofInt 8 (if s.m.fd then t' else diff)
        fn := decide (128 ≤ diff % 256)
        fv := decide (a.toInt - v.toInt - borrow < -128 ∨ 127 < a.toInt - v.toInt - borrow)
        fz := decide (diff % 256 = 0)
        fc := decide (0 ≤ diff) })) ∧
  (∀ (s : State) (x y : Nat), x < 100 → y < 100 → s.m.fd = true →
    let packed := fun n : Nat => BitVec.ofNat 8 (16 * (n / 10) + n % 10)
    let c := if s.m.fc then 1 else 0
    s.m.a = packed x →
      (∃ t, exec (.mAdcImm (packed y)) s = .next t ∧ t.m.a = packed ((x + y + c) % 100) ∧ t.m.fc = decide (100 ≤ x + y + c)) ∧
      (∃ t, exec (.mSbcImm (packed y)) s = .next t ∧ t.m.a = packed ((x + 99 + c - y) % 100) ∧
        t.m.fc = decide (y + 1 ≤ x + c)))

/-- `LDX`, `LDY`, `CPX`, `CPY`, `BIT`, the transfers, and the register increments and decrements (R557, R558, R562 to R567, R575, R581,
R582, R584, R585, R587, R588). -/
def Obligations.IndexRegisterAndTransferInstructions : Prop :=
  (∀ (op : IndexOp) (o : SourceM) (i : Instr) (s : State), indexInstr op o = some i →
    let v := (o.read s).1
    let runs := fun (f : M6502 → M6502) => exec i s = .next ((o.read s).2.onM f)
    let compared := fun (r : Byte) (m : M6502) =>
      { m with fn := decide (128 ≤ (r - v).toNat), fz := decide (r = v), fc := decide (v.toNat ≤ r.toNat) }
    (op = .ldx → runs fun m => { m with x := v, fn := decide (128 ≤ v.toNat), fz := decide (v = 0) }) ∧
    (op = .ldy → runs fun m => { m with y := v, fn := decide (128 ≤ v.toNat), fz := decide (v = 0) }) ∧
    (op = .cpx → runs (compared s.m.x)) ∧ (op = .cpy → runs (compared s.m.y)) ∧
    (op = .bit → runs fun m => { m with fz := decide (s.m.a &&& v = 0), fn := v.getLsbD 7, fv := v.getLsbD 6 })) ∧
  (∀ s : State,
    let setNZ := fun (v : Byte) (m : M6502) => { m with fn := decide (128 ≤ v.toNat), fz := decide (v = 0) }
    exec .mTax s = .next { s with m := { setNZ s.m.a s.m with x := s.m.a } } ∧
    exec .mTay s = .next { s with m := { setNZ s.m.a s.m with y := s.m.a } } ∧
    exec .mTxa s = .next { s with m := { setNZ s.m.x s.m with a := s.m.x } } ∧
    exec .mTya s = .next { s with m := { setNZ s.m.y s.m with a := s.m.y } } ∧
    exec .mTsx s = .next { s with m := { setNZ s.m.s s.m with x := s.m.s } } ∧
    exec .mTxs s = .next { s with m := { s.m with s := s.m.x } } ∧
    exec .mInx s = .next { s with m := { setNZ (s.m.x + 1) s.m with x := s.m.x + 1 } } ∧
    exec .mIny s = .next { s with m := { setNZ (s.m.y + 1) s.m with y := s.m.y + 1 } } ∧
    exec .mDex s = .next { s with m := { setNZ (s.m.x - 1) s.m with x := s.m.x - 1 } } ∧
    exec .mDey s = .next { s with m := { setNZ (s.m.y - 1) s.m with y := s.m.y - 1 } })

/-- The stores write one byte at the effective address and nothing else, without the page-crossing penalty; the read-modify-write
instructions read the byte and write the result at the same address; the shifts of `A` work on `A` (R555, R559 to R561, R583, R586,
R620 to R624). -/
def Obligations.StoresAndReadModifyWritesOfThe6502 : Prop :=
  (∀ (r : StoreReg) (mode : AddrMode) (i : Instr) (s : State), storeInstr r mode = some i →
    exec i s = .next (memWrite (addressOf mode s).1.2 (r.value s.m) (addressOf mode s).2)) ∧
  (∀ (op : ModifyOp) (mode : AddrMode) (i : Instr) (s : State), modifyInstr op mode = some i →
    let ad := (addressOf mode s).1.2
    let r := memRead ad (addressOf mode s).2
    let n := modifyNumbers op r.1.toNat s.m.fc.toNat
    exec i s = .next ((memWrite ad (BitVec.ofNat 8 n.1) r.2).onM fun m =>
      { m with fn := decide (128 ≤ n.1), fz := decide (n.1 = 0), fc := decide (n.2 = 1) })) ∧
  (∀ (op : ModifyOp) (i : Instr) (s : State), modifyAInstr op = some i →
    let n := modifyNumbers op s.m.a.toNat s.m.fc.toNat
    exec i s = .next { s with m := { s.m with
      a := BitVec.ofNat 8 n.1, fn := decide (128 ≤ n.1), fz := decide (n.1 = 0), fc := decide (n.2 = 1) } })

/-- The eight branches with the cycles of the taken path, `JMP`, `JSR`, `RTS`, `NOP` and the flag instructions (R625, R627 to R644,
R647, R937). -/
def Obligations.BranchesSubroutinesAndFlagInstructions : Prop :=
  (∀ (k : Branch) (b : Byte) (s : State),
    let target := s.m.pc + b.signExtend 16
    let penalty := s.cfg.cyc.branchTaken + if hi8 target = hi8 s.m.pc then 0 else s.cfg.cyc.branchPage
    (k.taken s.m → exec (k.instr b) s = .next { s with m := { s.m with pc := target, cycLine := s.m.cycLine + penalty } }) ∧
    (¬k.taken s.m → exec (k.instr b) s = .next s)) ∧
  (∀ s : State,
    let sp := s.m.s
    let ret := s.m.pc - 1
    let lo := memRead (stackAddr (sp + 1)) s
    let hi := memRead (stackAddr (sp + 2)) lo.2
    (∀ addr, exec (.mJmpAbs addr) s = .next { s with m := { s.m with pc := addr } }) ∧
    (∀ addr, exec (.mJsr addr) s =
      .next ((memWrite (stackAddr (sp - 1)) (lo8 ret) (memWrite (stackAddr sp) (hi8 ret) s)).onM fun m =>
        { m with s := sp - 2, pc := addr })) ∧
    exec .mRts s = .next (hi.2.onM fun m => { m with s := sp + 2, pc := mk16 hi.1 lo.1 + 1 }) ∧
    exec .mNop s = .next s ∧
    exec .mClc s = .next { s with m := { s.m with fc := false } } ∧ exec .mSec s = .next { s with m := { s.m with fc := true } } ∧
    exec .mCld s = .next { s with m := { s.m with fd := false } } ∧ exec .mSed s = .next { s with m := { s.m with fd := true } } ∧
    exec .mCli s = .next { s with m := { s.m with fi := false } } ∧ exec .mSei s = .next { s with m := { s.m with fi := true } } ∧
    exec .mClv s = .next { s with m := { s.m with fv := false } })

/-- The 6502's stack: `PHA`, `PHP`, `PLA`, `PLP`, `BRK` and `RTI`; the pushed status byte has bit 5 set and bit 4 as R50 says, and the
pulled one gives six flags. On plain RAM `RTI` undoes what `BRK` pushed (R50, R136, R568 to R571, R645, R646). -/
def Obligations.StackBreakAndReturnOfThe6502 : Prop :=
  (∀ (m : M6502) (b : Bool),
    (m.pushedP b).getLsbD 7 = m.fn ∧ (m.pushedP b).getLsbD 6 = m.fv ∧ (m.pushedP b).getLsbD 5 = true ∧
    (m.pushedP b).getLsbD 4 = b ∧ (m.pushedP b).getLsbD 3 = m.fd ∧ (m.pushedP b).getLsbD 2 = m.fi ∧
    (m.pushedP b).getLsbD 1 = m.fz ∧ (m.pushedP b).getLsbD 0 = m.fc) ∧
  (∀ s : State,
    let sp := s.m.s
    let loads := fun (t : Byte) (m : M6502) => { m with
      fn := t.getLsbD 7, fv := t.getLsbD 6, fd := t.getLsbD 3, fi := t.getLsbD 2, fz := t.getLsbD 1, fc := t.getLsbD 0 }
    let p := memRead (stackAddr (sp + 1)) s
    let lo := memRead (stackAddr (sp + 2)) p.2
    let hi := memRead (stackAddr (sp + 3)) lo.2
    let ret := s.m.pc + 1
    let pushed := memWrite (stackAddr (sp - 2)) (s.m.pushedP true)
      (memWrite (stackAddr (sp - 1)) (lo8 ret) (memWrite (stackAddr sp) (hi8 ret) s))
    let vlo := memRead 0xFFFE pushed
    let vhi := memRead 0xFFFF vlo.2
    exec .mPha s = .next ((memWrite (stackAddr sp) s.m.a s).onM fun m => { m with s := sp - 1 }) ∧
    exec .mPhp s = .next ((memWrite (stackAddr sp) (s.m.pushedP true) s).onM fun m => { m with s := sp - 1 }) ∧
    exec .mPla s = .next (p.2.onM fun m =>
      { m with s := sp + 1, a := p.1, fn := decide (128 ≤ p.1.toNat), fz := decide (p.1 = 0) }) ∧
    exec .mPlp s = .next (p.2.onM fun m => loads p.1 { m with s := sp + 1 }) ∧
    exec .mRti s = .next (hi.2.onM fun m => loads p.1 { m with s := sp + 3, pc := mk16 hi.1 lo.1 }) ∧
    exec .mBrk s = .next (vhi.2.onM fun m => { m with s := sp - 3, fi := true, pc := mk16 vhi.1 vlo.1 })) ∧
  (∀ s : State, (∀ a, PlainAt s.cfg a) →
    ∃ t u, exec .mBrk s = .next t ∧ exec .mRti t = .next u ∧ u.m = { s.m with pc := s.m.pc + 1 })

/-! ## Requests, sample points, the driver -/

/-- `Inject` latches a request in its own slot and changes nothing else; a VDP request is injected in the class of the configuration. A
sample point takes one request at most: the stop request first, then the non-maskable, then the maskable one if it is enabled; what it
does not take stays latched (R824, R826, R831, R844, R849, R857). -/
def Obligations.SamplePointsTakeOneRequestInOrder : Prop :=
  (∀ s : State,
    let latched := fun p : Pending => { s with ic := p }
    inject .none s = s ∧
    inject .nmi s = latched ⟨true, s.ic.int, s.ic.quit⟩ ∧
    (∀ v, inject (.int v) s = latched ⟨s.ic.nmi, some v, s.ic.quit⟩) ∧
    inject .quit s = latched ⟨s.ic.nmi, s.ic.int, true⟩ ∧
    routeIrq (false, s) = s ∧
    (s.cfg.vdpIrqClass = .nmi → routeIrq (true, s) = latched ⟨true, s.ic.int, s.ic.quit⟩) ∧
    (s.cfg.vdpIrqClass = .int → routeIrq (true, s) = latched ⟨s.ic.nmi, some s.cfg.vdpIrqVector, s.ic.quit⟩)) ∧
  ∀ s : State,
    let z80 := s.cfg.cpu = .z80
    let m6502 := s.cfg.cpu = .m6502
    let quiet := s.ic.quit = false ∧ s.ic.nmi = false
    (s.ic.quit = true → accept s = .stop { s with ic := { s.ic with quit := false } }) ∧
    (s.ic.quit = false → s.ic.nmi = true →
      (z80 → accept s = .ok (nmiEntry { s with ic := { s.ic with nmi := false } })) ∧
      (m6502 → accept s = .ok (entry6502 0xFFFA { s with ic := { s.ic with nmi := false } }))) ∧
    (quiet → ∀ v, s.ic.int = some v →
      (z80 → s.z.iff1 = true → accept s = intEntry v { s with ic := { s.ic with int := none } }) ∧
      (m6502 → s.m.fi = false → accept s = .ok (entry6502 0xFFFE { s with ic := { s.ic with int := none } })) ∧
      (z80 → s.z.iff1 = false → accept s = .ok s) ∧ (m6502 → s.m.fi = true → accept s = .ok s)) ∧
    (quiet → s.ic.int = none → accept s = .ok s)

/-- Taking a request on the Z80: a halt ends with `PC` past its opcode, `R` advances in its low seven bits, the flip-flops are
cleared (`IFF2` kept by a non-maskable entry), `PC` is pushed and loaded by class and mode, the entry is charged (R832 to R837, R40).
A mode 0 vector that is no restart opcode, for which R834 defines no behaviour, is refused: the model's choice, log 9. -/
def Obligations.Z80EntriesSaveThePcAndVector : Prop :=
  ∀ (s : State) (v : Byte),
    let sp := s.z.sp
    let ret := if s.z.halted = true then s.z.pc + 1 else s.z.pc
    let pushed := memWrite (sp - 2) (lo8 ret) (memWrite (sp - 1) (hi8 ret) s)
    let r' := BitVec.ofNat 8 (s.z.r.toNat / 128 * 128 + (s.z.r.toNat + 1) % 128)
    let enters := fun (keep : Bool) (target : Word) (cycles : Nat) (z : Z80) =>
      { z with
        pc := target, sp := sp - 2, halted := false, r := r', iff1 := false, iff2 := keep && z.iff2
        icount := z.icount - cycles }
    let lo := memRead (mk16 s.z.i v) pushed
    let hi := memRead (mk16 s.z.i v + 1) lo.2
    nmiEntry s = pushed.onZ (enters true 0x0066 s.cfg.cyc.z80Nmi) ∧
    (s.z.im = .im0 → v &&& 0xC7 = 0xC7 →
      intEntry v s = .ok (pushed.onZ (enters false ((v &&& 0x38).setWidth 16) s.cfg.cyc.z80IntIm0))) ∧
    (s.z.im = .im0 → v &&& 0xC7 ≠ 0xC7 → intEntry v s = .refused) ∧
    (s.z.im = .im1 → intEntry v s = .ok (pushed.onZ (enters false 0x0038 s.cfg.cyc.z80IntIm1))) ∧
    (s.z.im = .im2 → intEntry v s = .ok (hi.2.onZ (enters false (mk16 hi.1 lo.1) s.cfg.cyc.z80IntIm2))) ∧
    (let costs := Config.default.cyc
     costs.z80Nmi = 11 ∧ costs.z80IntIm0 = 13 ∧ costs.z80IntIm1 = 13 ∧ costs.z80IntIm2 = 19)

/-- Taking a request on the 6502: `PC`, then the status byte with bit 5 set and bit 4 clear are pushed, `I` is set, `PC` is loaded from
the vector, the entry is charged (R845, R846). -/
def Obligations.Entry6502SavesPcAndStatus : Prop :=
  ∀ (s : State) (vec : Word),
    let sp := s.m.s
    let pushed := memWrite (stackAddr (sp - 2)) (s.m.pushedP false)
      (memWrite (stackAddr (sp - 1)) (lo8 s.m.pc) (memWrite (stackAddr sp) (hi8 s.m.pc) s))
    let lo := memRead vec pushed
    let hi := memRead (vec + 1) lo.2
    (entry6502 vec s = hi.2.onM fun m =>
      { m with s := sp - 3, fi := true, pc := mk16 hi.1 lo.1, cycLine := m.cycLine + s.cfg.cyc.m6502Int }) ∧
    Config.default.cyc.m6502Int = 7

/-- After `EI` exactly one further instruction runs, whatever the budget: the window closes behind it with the counter as it would have
been without the window, and the sample point follows when the configuration has one there (R418, R829, R838, R839). -/
def Obligations.GraceWindowLastsOneInstruction : Prop :=
  ∀ (i : Instr) (s s1 s2 t : State), s.phase = .execLoop → s.cfg.cpu = .z80 → 0 < s.z.icount → s.z.halted = false →
    s.z.grace = false → fetch s = (some .zEi, s1) → step s = .next s2 → fetch s2 = (some i, t) → i ≠ .zEi →
    s2.z.grace = true ∧ s2.z.iff1 = true ∧ s2.z.iff2 = true ∧ s2.z.icount = 1 ∧ s2.phase = .execLoop ∧
    ∀ u, exec i (beginZ i t) = .next u →
      let closed := u.onZ fun z => { z with
        grace := false, ibackup := 0, icount := z.icount + (s.z.icount - costZ80 s.cfg .zEi) - 1 }
      (s.cfg.sampleAtGraceEnd = false → step s2 = .next closed) ∧
      (s.cfg.sampleAtGraceEnd = true →
        (∀ w, accept closed = .ok w → step s2 = .next w) ∧
        (∀ w, accept closed = .stop w →
          step s2 = .next { w with phase := .stopped, events := .executed w.z.pc true :: w.events }) ∧
        (accept closed = .refused → step s2 = .refused .im0VectorNotRst))

/-- `Execute` and the driver. A turn does its scripted actions, then an iteration in the configured order, or an `Execute` out of turn;
with nothing scripted, an iteration with the nominal budget. The budget is added (Z80) or counted from 0 (6502) at the entry
sample point; instructions run while it lasts, and a halted Z80 spends the rest of it; then come the poll (6502) and the end sample
point. A stop at either point ends the call, and the driver goes on when more is scripted (R827 to R830, R837, R842, R843, R857,
R927). The cut into steps and the script are log 11, the stopped phase log 12, the poll's script log 17, calls out of turn log 25. -/
def Obligations.ExecuteAndTheDriverIteration : Prop :=
  ∀ s : State,
    let cpuFirst := s.cfg.order = .cpuThenVdp
    let z80 := s.cfg.cpu = .z80
    let m6502 := s.cfg.cpu = .m6502
    let turn := fun (budget : Nat) (inTurn : Bool) (u : State) =>
      { u with phase := if inTurn = true ∧ ¬cpuFirst then .scanline else .execEntry, quota := budget, inTurn := inTurn }
    let scripted := ∀ line rest, s.lines = line :: rest →
      step s = .next (turn line.budget line.inTurn (runActions line.actions { s with lines := rest }))
    let ended := fun u : State =>
      { u with phase := if s.inTurn = true ∧ cpuFirst then .scanline else .iterStart }.emit (.executed u.pc false)
    let stopped := fun u : State => { u with phase := .stopped }.emit (.executed u.pc true)
    let closes := fun u : State =>
      (∀ w, accept u = .ok w → step s = .next (ended w)) ∧ (∀ w, accept u = .stop w → step s = .next (stopped w))
    let runs := fun start : Instr → State → State => ∃ i s1 t, fetch s = (some i, s1) ∧ exec i (start i s1) = .next t ∧
      step s = .next t ∧ t.phase = .execLoop ∧ t.quota = s.quota ∧ t.inTurn = s.inTurn
    (s.phase = .iterStart → scripted ∧ (s.lines = [] → step s = .next (turn s.cfg.lineCycles true s))) ∧
    (s.phase = .stopped → scripted ∧ (s.lines = [] → step s = .next s)) ∧
    (runActions [] s = s ∧ (∀ act rest, runActions (act :: rest) s = runActions rest (runAction act s)) ∧
      runAction .reset s = resetMachine s ∧
      (∀ n b, runAction (.writeRegister n b) s = routeIrq (writeRegister n b s)) ∧
      (∀ c, runAction (.call c) s = runCall c s) ∧
      (let r := stepScanline s
       runAction .stepScanline s = r.2.emit (.stepped r.1))) ∧
    (s.phase = .scanline →
      step s = .next { routeIrq (stepScanline s) with phase := if cpuFirst then .iterStart else .execEntry }) ∧
    (s.phase = .execEntry →
      (∀ u, z80 → accept s = .ok u →
        step s = .next ({ u with phase := .execLoop }.onZ fun z => { z with icount := z.icount + s.quota })) ∧
      (∀ u, z80 → accept s = .stop u → step s = .next (stopped u)) ∧
      (let from0 := s.onM fun m => { m with cycLine := 0 }
       (∀ u, m6502 → accept from0 = .ok u → step s = .next { u with phase := .execLoop }) ∧
       (∀ u, m6502 → accept from0 = .stop u → step s = .next (stopped u)))) ∧
    (s.phase = .execLoop →
      (z80 → s.z.halted = true → 0 < s.z.icount → step s = .next (s.onZ fun z => { z with icount := 0 })) ∧
      (z80 → s.z.halted = false → 0 < s.z.icount → s.z.grace = false → runs beginZ) ∧
      (m6502 → s.m.cycLine < s.quota → runs beginM) ∧
      (z80 → s.z.icount ≤ 0 → closes s) ∧
      (m6502 → s.quota ≤ s.m.cycLine →
        let polls := fun (r : PollReply) (u : State) =>
          closes (inject r.answer ((runCalls r.calls u).emit (.polled r.answer)))
        (∀ r rest, s.polls = r :: rest → polls r { s with polls := rest }) ∧
        (s.polls = [] → ∃ r, polls r { s with tick := s.tick + 1 })))

/-! ## VDP -/

/-- A register write: the index by its low three bits, the value under the register's mask, the derived fields with it, the backdrop
event of register 7, and a request exactly when the interrupt level rises; the screen mode is the entry of the decode table keyed by the
three mode bits, with the
documented rows of the default table (R69, R690 to R706). -/
def Obligations.RegisterWritesStoreLegalBitsAndRefresh : Prop :=
  (∀ (index value : Byte) (s : State),
    let n := index.extractLsb' 0 3
    let t := (writeRegister index value s).2
    let stored := value &&& ([0x03, 0xFB, 0x0F, 0xFF, 0x07, 0x7F, 0x07, 0xFF][n.toNat]?.getD 0)
    t.vdp.regs.get n = stored ∧ (∀ k, k ≠ n → t.vdp.regs.get k = s.vdp.regs.get k) ∧
    (VdpCoherent s.cfg s.vdp → VdpCoherent s.cfg t.vdp) ∧
    (n = 7 → t.vdp.mode = s.vdp.mode ∧ t.vdp.tab = s.vdp.tab ∧ t.vdp.fg.toNat = stored.toNat / 16 ∧
      t.vdp.bg.toNat = stored.toNat % 16) ∧
    (n ≠ 7 → t.vdp.mode = modeOf s.cfg.modeDecode t.vdp.regs ∧ t.vdp.tab = tablesOf t.vdp.mode t.vdp.regs ∧
      t.vdp.fg = s.vdp.fg ∧ t.vdp.bg = s.vdp.bg) ∧
    ((writeRegister index value s).1 = true ↔
      ¬(s.vdp.regs.r1.getLsbD 5 = true ∧ s.vdp.vstat.getLsbD 7 = true) ∧
      t.vdp.regs.r1.getLsbD 5 = true ∧ t.vdp.vstat.getLsbD 7 = true) ∧
    t = { s with
      vdp := { s.vdp with regs := t.vdp.regs, mode := t.vdp.mode, tab := t.vdp.tab, fg := t.vdp.fg, bg := t.vdp.bg }
      events := if n = 7 then .backdrop t.vdp.bg :: s.events else s.events }) ∧
  (∀ (k : ModeTable) (r : VdpRegs),
    let key := 4 * (r.r1.getLsbD 4).toNat + 2 * (r.r1.getLsbD 3).toNat + (r.r0.getLsbD 1).toNat
    some (modeOf k r) = [k.k0, k.k1, k.k2, k.k3, k.k4, k.k5, k.k6, k.k7][key]?) ∧
  (let k := Config.default.modeDecode
   k.k0 = .graphics1 ∧ k.k1 = .graphics2 ∧ k.k2 = .multicolor ∧ k.k4 = .text) ∧
  (∀ (mode : ScreenMode) (r : VdpRegs),
    let tab := tablesOf mode r
    let size := if r.r1.getLsbD 7 then 16384 else 4096
    let g2 := mode = .graphics2
    tab.vramMask.toNat = size - 1 ∧
    tab.nametab.toNat = r.r2.toNat % 16 * 1024 % size ∧
    tab.satab.toNat = r.r5.toNat % 128 * 128 % size ∧
    tab.sprgen.toNat = r.r6.toNat % 8 * 2048 % size ∧
    (¬g2 → tab.coltab.toNat = r.r3.toNat * 64 % size ∧ tab.patgen.toNat = r.r4.toNat % 8 * 2048 % size ∧
      tab.colmask.toNat = 16383 ∧ tab.patmask.toNat = 16383) ∧
    (g2 → tab.coltab.toNat = r.r3.toNat / 128 * 8192 % size ∧ tab.patgen.toNat = r.r4.toNat / 4 % 2 * 8192 % size ∧
      tab.colmask.toNat = r.r3.toNat % 128 * 64 + 63 ∧ tab.patmask.toNat = r.r4.toNat % 4 * 2048 + 2047) ∧
    tab.namemask.toNat = 16383 ∧ tab.satmask.toNat = 16383)

/-- The control port: the first byte waits in `CTRL_LOW`; the second sets a read address and fetches the byte there, or sets a write
address, or writes a register (R710 to R714). -/
def Obligations.ControlPortTakesTwoByteCommands : Prop :=
  ∀ (b : Byte) (s : State),
    let v := s.vdp
    let addr : VAddr := BitVec.ofNat 14 (b.toNat % 64 * 256 + v.ctrlLow.toNat)
    (v.flipflop = .expectLowOrData →
      writeControlPort b s = (false, { s with vdp := { v with ctrlLow := b, flipflop := .expectHigh } })) ∧
    (v.flipflop = .expectHigh →
      (b.toNat < 64 → writeControlPort b s = (false, { s with vdp := { v with
        flipflop := .expectLowOrData, rdlatch := v.vr addr, vaddr := addr + 1 } })) ∧
      (64 ≤ b.toNat → b.toNat < 128 → writeControlPort b s = (false, { s with vdp := { v with
        flipflop := .expectLowOrData, vaddr := addr } })) ∧
      (128 ≤ b.toNat → writeControlPort b s =
        writeRegister (b &&& 7) v.ctrlLow { s with vdp := { v with flipflop := .expectLowOrData } }))

/-- The data port and the status port: a data read returns the latch and fetches ahead, a data write stores and latches the byte, both
advance the address and reset the flip-flop; a status read clears the configured bits (R716 to R718). -/
def Obligations.DataAndStatusPortAccesses : Prop :=
  ∀ (b : Byte) (s : State),
    let v := s.vdp
    readDataPort s = (v.rdlatch, { s with vdp := { v with
      rdlatch := v.vr v.vaddr, vaddr := v.vaddr + 1, flipflop := .expectLowOrData } }) ∧
    writeDataPort b s = { s with vdp := { Vdp.vw v.vaddr b v with
      rdlatch := b, vaddr := v.vaddr + 1, flipflop := .expectLowOrData } } ∧
    readControlPort s = (v.vstat, { s with vdp := { v with
      vstat := v.vstat &&& ~~~s.cfg.statusClearMask, flipflop := .expectLowOrData } })

/-- Video memory through the ports: a byte written at an address after a write-address command is what a data read gives after a
read-address command for it, and a write changes only the bytes that the size mask identifies with its address (R141, R712, R713, R716,
R717). -/
def Obligations.VideoMemoryReadsBackWhatWasWritten : Prop :=
  (∀ (s : State) (lo hi b : Byte), s.vdp.flipflop = .expectLowOrData → hi.toNat < 64 →
    let s1 := (writeControlPort (hi ||| 0x40) (writeControlPort lo s).2).2
    let s2 := writeDataPort b s1
    let s3 := (writeControlPort hi (writeControlPort lo s2).2).2
    (readDataPort s3).1 = b) ∧
  (∀ (v : Vdp) (a a' : VAddr) (b : Byte),
    (Vdp.vw a b v).vr a' = if a &&& v.tab.vramMask = a' &&& v.tab.vramMask then b else v.vr a')

/-- One scanline: an active line renders its row, the line after the window sets `F`, adds a collision, hands over the framebuffer and
requests when the level rises, any line that is neither only counts, whatever the line constants (R752 to R756, R825). -/
def Obligations.ScanlineStepsRenderOrReachTheBoundary : Prop :=
  ∀ s : State,
    let v := s.vdp
    let line := v.curline
    let next := (line + 1) % s.cfg.totalLines
    let hit := v.mode ≠ .text ∧ checkCollision v = true
    (s.cfg.startLine ≤ line → line < s.cfg.endLine →
      stepScanline s = (false, { s with vdp := { renderLine s.cfg (line - s.cfg.startLine) v with curline := next } })) ∧
    (line = s.cfg.endLine → ∃ st : Byte,
      st.getLsbD 7 = true ∧ st.getLsbD 6 = v.vstat.getLsbD 6 ∧ (st.getLsbD 5 = true ↔ v.vstat.getLsbD 5 = true ∨ hit) ∧
      st &&& 0x1F = v.vstat &&& 0x1F ∧
      (stepScanline s).2 = { s with vdp := { v with vstat := st, curline := next }, events := .frameReady v.fb :: s.events } ∧
      ((stepScanline s).1 = true ↔ v.regs.r1.getLsbD 5 = true ∧ v.vstat.getLsbD 7 = false)) ∧
    (¬(s.cfg.startLine ≤ line ∧ line < s.cfg.endLine) → line ≠ s.cfg.endLine →
      stepScanline s = (false, { s with vdp := { v with curline := next } }))

/-- Rendering a line writes the 256 pixels of its row and no other row, and of the rest of the VDP at most the status byte; a disabled
display gives the background colour, the text mode no sprite; in the other modes the lowest-numbered sprite of the line's mask that has a
set pattern bit and a colour there shows, else the background (R753, R757, R758, R765, R775, R778). -/
def Obligations.RenderingWritesExactlyOneRow : Prop :=
  ∀ (cfg : Config) (y : Nat) (v : Vdp), y < 192 → FrameShape v.fb →
    let w := renderLine cfg y v
    FrameShape w.fb ∧ (∀ k, k ≠ y → w.fb[k]? = v.fb[k]?) ∧
    w = { v with fb := w.fb, vstat := w.vstat } ∧
    (v.mode = .text → w.vstat = v.vstat) ∧ (v.mode ≠ .text → w.vstat = (scanLine cfg y v).2.vstat) ∧
    ∀ x, x < 256 → ∃ p, (w.fb[y]?.bind fun row => row[x]?) = some p ∧
      (v.regs.display = false → p = v.bg) ∧
      (v.regs.display = true → v.mode = .text → p = backgroundPixel v y x) ∧
      (v.regs.display = true → v.mode ≠ .text →
        let shows := fun i : Nat =>
          (scanLine cfg y v).1.getLsbD i && decide (v.spriteColour i ≠ 0) && spriteLit v i y x
        (∀ i, i < 32 → shows i = true → (∀ j, j < i → shows j = false) → p = v.spriteColour i) ∧
        ((∀ i, i < 32 → shows i = false) → p = backgroundPixel v y x))

/-- The background by cells: each mode's name, pattern and colour bytes, and the pixels of a cell from left to right (R760 to R763). -/
def Obligations.BackgroundPixelsOfTheFourModes : Prop :=
  ∀ (v : Vdp) (y c i : Nat), y < 192 →
    let at' := fun (base mask : VAddr) (offset : Nat) => v.vr (base + (BitVec.ofNat 14 offset &&& mask))
    let pattern := at' v.tab.patgen v.tab.patmask
    let colour := at' v.tab.coltab v.tab.colmask
    let pick := fun (p : Byte) (k : Nat) (one zero : Pixel) => if p.getLsbD (7 - k) = true then one else zero
    (v.mode = .text →
      (c < 40 → i < 6 → let name := (at' v.tab.nametab v.tab.namemask (y / 8 * 40 + c)).toNat
        backgroundPixel v y (8 + 6 * c + i) = pick (pattern (name * 8 + y % 8)) i v.fg v.bg) ∧
      (i < 8 → backgroundPixel v y i = v.bg ∧ backgroundPixel v y (248 + i) = v.bg)) ∧
    (c < 32 → i < 8 → let name := (at' v.tab.nametab v.tab.namemask (y / 8 * 32 + c)).toNat
      (v.mode = .graphics1 → let col := colour (name / 8)
        backgroundPixel v y (8 * c + i) = pick (pattern (name * 8 + y % 8)) i (hiPixel col) (loPixel col)) ∧
      (v.mode = .graphics2 → let o := y / 64 * 2048 + name * 8 + y % 8
        backgroundPixel v y (8 * c + i) = pick (pattern o) i (hiPixel (colour o)) (loPixel (colour o))) ∧
      (v.mode = .multicolor → let p := pattern (name * 8 + y / 4 % 8)
        backgroundPixel v y (8 * c + i) = if i < 4 then hiPixel p else loPixel p))

/-- The scan of a line: the mask holds exactly the sprites before the first terminator that cover the line and are among the first
`max_sprites` of these, and the first visible index is the lowest in it; the fifth such sprite latches its number once, until the flag
is cleared (R770 to R774). -/
def Obligations.SpriteScanFindsTheVisibleSprites : Prop :=
  ∀ (cfg : Config) (y : Nat) (v : Vdp),
    let height : Int := (if v.regs.r1.getLsbD 1 then 16 else 8) * (if v.regs.r1.getLsbD 0 then 2 else 1)
    let attrY := fun i : Nat => (v.vr (v.tab.satab + (BitVec.ofNat 14 (4 * i) &&& v.tab.satmask))).toNat
    let top := fun i : Nat => (if 208 < attrY i then (attrY i : Int) - 256 else attrY i) + 1
    let counted := fun i : Nat => decide ((∀ j, j ≤ i → attrY j ≠ 208) ∧ top i ≤ y ∧ (y : Int) < top i + height)
    let rank := fun i : Nat => ((List.range (i + 1)).filter counted).length
    let w := scanLine cfg y v
    (∀ i, i < 32 → (w.1.getLsbD i = true ↔ counted i = true ∧ rank i ≤ cfg.maxSprites)) ∧
    (firstVisible w.1 = none ↔ w.1 = 0) ∧
    (∀ i, firstVisible w.1 = some i ↔ w.1.getLsbD i = true ∧ ∀ j, j < i → w.1.getLsbD j = false) ∧
    w.2 = { v with vstat := w.2.vstat } ∧
    (v.vstat.getLsbD 6 = true → w.2.vstat = v.vstat) ∧
    (v.vstat.getLsbD 6 = false → (∀ i, i < 32 → ¬(counted i = true ∧ rank i = 5)) → w.2.vstat = v.vstat) ∧
    (v.vstat.getLsbD 6 = false → ∀ i, i < 32 → counted i = true → rank i = 5 →
      w.2.vstat = (v.vstat &&& 0xA0) ||| 0x40 ||| BitVec.ofNat 8 i)

/-- Drawing: at each column the lowest-numbered sprite of the mask that is not transparent and has a set pattern bit there shows, else
the background (R775, R778). -/
def Obligations.LowestSpriteShowsOnTop : Prop :=
  ∀ (v : Vdp) (y x : Nat) (mask : BitVec 32) (row : List Pixel), row.length = 256 → x < 256 →
    let shows := fun i : Nat => mask.getLsbD i && decide (v.spriteColour i ≠ 0) && spriteLit v i y x
    (∀ i, i < 32 → shows i = true → (∀ j, j < i → shows j = false) →
      (compositeLine v y mask 32 row)[x]? = some (v.spriteColour i)) ∧
    ((∀ i, i < 32 → shows i = false) → (compositeLine v y mask 32 row)[x]? = row[x]?)

/-- Where a sprite's pixels are: pattern row and column from the position, size and magnification bits and the early clock, bit 7 of a
pattern byte leftmost (R771, R772, R775 to R777). -/
def Obligations.SpritePixelsLieWhereTheAttributesPutThem : Prop :=
  ∀ (v : Vdp) (i y x : Nat),
    let attr := fun k : Nat => v.vr (v.tab.satab + BitVec.ofNat 14 (4 * i + k))
    let side : Nat := if v.regs.r1.getLsbD 1 then 16 else 8
    let zoom : Nat := if v.regs.r1.getLsbD 0 then 2 else 1
    let top : Int := (if 208 < (attr 0).toNat then ((attr 0).toNat : Int) - 256 else (attr 0).toNat) + 1
    let left : Int := (attr 1).toNat - (if (attr 3).getLsbD 7 then 32 else 0)
    let name := (attr 2).toNat
    let bit := fun r k : Nat =>
      if side = 16 then
        (v.vr (v.tab.sprgen + BitVec.ofNat 14 (name / 4 * 4 * 8) + BitVec.ofNat 14 (r + 16 * (k / 8)))).getLsbD (7 - k % 8)
      else (v.vr (v.tab.sprgen + BitVec.ofNat 14 (name * 8 + r))).getLsbD (7 - k)
    (spriteLit v i y x = true ↔ ∃ r k m n : Nat, r < side ∧ k < side ∧ m < zoom ∧ n < zoom ∧
      (y : Int) = top + (r * zoom + m : Nat) ∧ (x : Int) = left + (k * zoom + n : Nat) ∧ bit r k = true)

/-- A collision is reported exactly when two different sprites before the first terminator share a visible position, whatever their
colours (R780, R781). -/
def Obligations.CollisionMeansASharedPixel : Prop :=
  ∀ v : Vdp, ∃ k : Nat, k ≤ 32 ∧ (∀ i, i < k → v.spriteY i ≠ 208) ∧ (k < 32 → v.spriteY k = 208) ∧
    (checkCollision v = true ↔
      ∃ i j x y : Nat, i < j ∧ j < k ∧ x < 256 ∧ y < 192 ∧ spriteLit v i y x = true ∧ spriteLit v j y x = true)

/-- Saving and restoring: what `Save` returns gives every component of the CPU, the controller and the VDP back in any instance, and
touches nothing else (R70, R912). -/
def Obligations.RestoreGivesBackWhatWasSaved : Prop :=
  ∀ s t : State,
    let u := runAction (.restore (save s)) t
    u.z = s.z ∧ u.m = s.m ∧ u.ic = s.ic ∧ u.vdp = s.vdp ∧
    u = { t with z := u.z, m := u.m, ic := u.ic, vdp := u.vdp } ∧
    runAction .save t = { t with events := .saved (save t) :: t.events }
end

