-- ==== Sys2Proof/Laws/Memory.lean ====
section
/-! SUPPORT. The laws of byte memory: a read after a write, and the canonical form every operation keeps. -/
namespace Sys2Proof.Machine

/-- Reading where an entry was removed gives what an unlisted address reads as. -/
theorem Memory.read_erase_same (m : List Host.Cell) (a : Nat) : Memory.read (Memory.erase m a) a = unlisted := by
  induction m with
  | nil => rfl
  | cons c rest ih =>
    obtain ⟨k, w⟩ := c
    by_cases h : a = k <;> simp [Memory.erase, Memory.read, h]
    · simpa [h] using ih
    · exact ih

/-- Removing an entry leaves every other address alone. -/
theorem Memory.read_erase_other (m : List Host.Cell) (a b : Nat) (h : b ≠ a) :
    Memory.read (Memory.erase m a) b = Memory.read m b := by
  induction m with
  | nil => rfl
  | cons c rest ih =>
    obtain ⟨k, w⟩ := c
    by_cases hk : a = k
    · subst hk
      simp [Memory.erase, Memory.read, h, ih]
    · simp [Memory.erase, Memory.read, hk, ih]

/-- Reading where an entry was put gives it, when no other entry of that address stands in the list. -/
theorem Memory.read_insert_same (m : List Host.Cell) (a : Nat) (v : Byte) (h : ∀ c ∈ m, c.1 ≠ a) :
    Memory.read (Memory.insert m a v) a = v := by
  induction m with
  | nil => simp [Memory.insert, Memory.read]
  | cons c rest ih =>
    obtain ⟨k, w⟩ := c
    have hk : k ≠ a := h (k, w) (by simp)
    by_cases hlt : a < k
    · simp [Memory.insert, Memory.read, hlt]
    · simp [Memory.insert, Memory.read, hlt, Ne.symm hk, ih fun c hc => h c (by simp [hc])]

/-- Putting an entry leaves every other address alone. -/
theorem Memory.read_insert_other (m : List Host.Cell) (a b : Nat) (v : Byte) (h : b ≠ a) :
    Memory.read (Memory.insert m a v) b = Memory.read m b := by
  induction m with
  | nil => simp [Memory.insert, Memory.read, h]
  | cons c rest ih =>
    obtain ⟨k, w⟩ := c
    by_cases hlt : a < k
    · simp [Memory.insert, Memory.read, hlt, h]
    · simp [Memory.insert, Memory.read, hlt, ih]

/-- No entry of an address is left after it is removed. -/
theorem Memory.erase_absent (m : List Host.Cell) (a : Nat) : ∀ c ∈ Memory.erase m a, c.1 ≠ a := by
  induction m with
  | nil => simp [Memory.erase]
  | cons c rest ih =>
    obtain ⟨k, w⟩ := c
    intro c hc
    by_cases hk : a = k
    · rw [Memory.erase, if_pos hk] at hc
      exact ih c hc
    · rw [Memory.erase, if_neg hk] at hc
      rcases List.mem_cons.mp hc with rfl | hc
      · exact fun h => hk h.symm
      · exact ih c hc

/-- A read of the address just written gives the value written. -/
theorem Memory.read_write_same (m : List Host.Cell) (a : Nat) (v : Byte) : Memory.read (Memory.write m a v) a = v := by
  unfold Memory.write
  split
  · next h => rw [Memory.read_erase_same, h]
  · exact Memory.read_insert_same _ _ _ (Memory.erase_absent m a)

/-- A write leaves every other address alone. -/
theorem Memory.read_write_other (m : List Host.Cell) (a b : Nat) (v : Byte) (h : b ≠ a) :
    Memory.read (Memory.write m a v) b = Memory.read m b := by
  unfold Memory.write
  split
  · exact Memory.read_erase_other m a b h
  · rw [Memory.read_insert_other _ a b v h, Memory.read_erase_other m a b h]

/-- The canonical form from a higher bound is the canonical form from a lower one. -/
theorem Memory.wfFrom_mono (size lo lo' : Nat) (m : List Host.Cell) (h : lo' ≤ lo) (w : Memory.wfFrom size lo m = true) :
    Memory.wfFrom size lo' m = true := by
  cases m with
  | nil => rfl
  | cons c rest =>
    obtain ⟨k, v⟩ := c
    simp only [Memory.wfFrom, Bool.and_eq_true, decide_eq_true_eq] at w ⊢
    exact ⟨⟨⟨Nat.le_trans h w.1.1.1, w.1.1.2⟩, w.1.2⟩, w.2⟩

/-- Removing an entry keeps the canonical form. -/
theorem Memory.erase_wfFrom (size a : Nat) (m : List Host.Cell) :
    ∀ lo, Memory.wfFrom size lo m = true → Memory.wfFrom size lo (Memory.erase m a) = true := by
  induction m with
  | nil => intro lo _; rfl
  | cons c rest ih =>
    obtain ⟨k, v⟩ := c
    intro lo w
    simp only [Memory.wfFrom, Bool.and_eq_true, decide_eq_true_eq] at w
    by_cases hk : a = k
    · rw [Memory.erase, if_pos hk]
      exact Memory.wfFrom_mono size (k + 1) lo _ (by omega) (ih _ w.2)
    · rw [Memory.erase, if_neg hk]
      simp only [Memory.wfFrom, Bool.and_eq_true, decide_eq_true_eq]
      exact ⟨w.1, ih _ w.2⟩

/-- Putting an entry that is not what an unlisted address reads as keeps the canonical form. -/
theorem Memory.insert_wfFrom (size a : Nat) (v : Byte) (ha : a < size) (hv : v ≠ unlisted) (m : List Host.Cell) :
    ∀ lo, lo ≤ a → (∀ c ∈ m, c.1 ≠ a) → Memory.wfFrom size lo m = true →
      Memory.wfFrom size lo (Memory.insert m a v) = true := by
  induction m with
  | nil =>
    intro lo hlo _ _
    simp [Memory.insert, Memory.wfFrom, hlo, ha, hv]
  | cons c rest ih =>
    obtain ⟨k, w⟩ := c
    intro lo hlo habs hw
    have hk : k ≠ a := habs (k, w) (by simp)
    simp only [Memory.wfFrom, Bool.and_eq_true, decide_eq_true_eq] at hw
    by_cases hlt : a < k
    · rw [Memory.insert, if_pos hlt]
      simp only [Memory.wfFrom, Bool.and_eq_true, decide_eq_true_eq]
      exact ⟨⟨⟨hlo, ha⟩, hv⟩, ⟨⟨⟨by omega, hw.1.1.2⟩, hw.1.2⟩, hw.2⟩⟩
    · rw [Memory.insert, if_neg hlt]
      simp only [Memory.wfFrom, Bool.and_eq_true, decide_eq_true_eq]
      exact ⟨hw.1, ih (k + 1) (by omega) (fun c hc => habs c (by simp [hc])) hw.2⟩

/-- A write keeps the canonical form. -/
theorem Memory.write_wf (size : Nat) (m : List Host.Cell) (a : Nat) (v : Byte) (ha : a < size)
    (w : Memory.wf size m = true) : Memory.wf size (Memory.write m a v) = true := by
  unfold Memory.write Memory.wf at *
  split
  · exact Memory.erase_wfFrom size a m 0 w
  · next hv =>
    exact Memory.insert_wfFrom size a v ha hv _ 0 (Nat.zero_le a) (Memory.erase_absent m a) (Memory.erase_wfFrom size a m 0 w)

end Sys2Proof.Machine
end

