-- ==== Sys2Proof/Laws/State.lean ====
section
/-! SUPPORT. One lemma per field per update of the state, each true by rfl, so that no later proof unfolds a record update. -/
namespace Sys2Proof.Machine

variable (s : State)

@[simp] theorem State.onZ_cfg (f : Z80 → Z80) : (s.onZ f).cfg = s.cfg := rfl
@[simp] theorem State.onZ_z (f : Z80 → Z80) : (s.onZ f).z = f s.z := rfl
@[simp] theorem State.onZ_m (f : Z80 → Z80) : (s.onZ f).m = s.m := rfl
@[simp] theorem State.onZ_ic (f : Z80 → Z80) : (s.onZ f).ic = s.ic := rfl
@[simp] theorem State.onZ_vdp (f : Z80 → Z80) : (s.onZ f).vdp = s.vdp := rfl
@[simp] theorem State.onZ_mem (f : Z80 → Z80) : (s.onZ f).mem = s.mem := rfl
@[simp] theorem State.onZ_phase (f : Z80 → Z80) : (s.onZ f).phase = s.phase := rfl
@[simp] theorem State.onZ_quota (f : Z80 → Z80) : (s.onZ f).quota = s.quota := rfl
@[simp] theorem State.onZ_inTurn (f : Z80 → Z80) : (s.onZ f).inTurn = s.inTurn := rfl
@[simp] theorem State.onZ_lines (f : Z80 → Z80) : (s.onZ f).lines = s.lines := rfl
@[simp] theorem State.onZ_hookIn (f : Z80 → Z80) : (s.onZ f).hookIn = s.hookIn := rfl
@[simp] theorem State.onZ_polls (f : Z80 → Z80) : (s.onZ f).polls = s.polls := rfl
@[simp] theorem State.onZ_tick (f : Z80 → Z80) : (s.onZ f).tick = s.tick := rfl
@[simp] theorem State.onZ_events (f : Z80 → Z80) : (s.onZ f).events = s.events := rfl

@[simp] theorem State.onM_cfg (f : M6502 → M6502) : (s.onM f).cfg = s.cfg := rfl
@[simp] theorem State.onM_z (f : M6502 → M6502) : (s.onM f).z = s.z := rfl
@[simp] theorem State.onM_m (f : M6502 → M6502) : (s.onM f).m = f s.m := rfl
@[simp] theorem State.onM_ic (f : M6502 → M6502) : (s.onM f).ic = s.ic := rfl
@[simp] theorem State.onM_vdp (f : M6502 → M6502) : (s.onM f).vdp = s.vdp := rfl
@[simp] theorem State.onM_mem (f : M6502 → M6502) : (s.onM f).mem = s.mem := rfl
@[simp] theorem State.onM_phase (f : M6502 → M6502) : (s.onM f).phase = s.phase := rfl
@[simp] theorem State.onM_quota (f : M6502 → M6502) : (s.onM f).quota = s.quota := rfl
@[simp] theorem State.onM_inTurn (f : M6502 → M6502) : (s.onM f).inTurn = s.inTurn := rfl
@[simp] theorem State.onM_lines (f : M6502 → M6502) : (s.onM f).lines = s.lines := rfl
@[simp] theorem State.onM_hookIn (f : M6502 → M6502) : (s.onM f).hookIn = s.hookIn := rfl
@[simp] theorem State.onM_polls (f : M6502 → M6502) : (s.onM f).polls = s.polls := rfl
@[simp] theorem State.onM_tick (f : M6502 → M6502) : (s.onM f).tick = s.tick := rfl
@[simp] theorem State.onM_events (f : M6502 → M6502) : (s.onM f).events = s.events := rfl

@[simp] theorem State.onVdp_cfg (f : Vdp → Vdp) : (s.onVdp f).cfg = s.cfg := rfl
@[simp] theorem State.onVdp_z (f : Vdp → Vdp) : (s.onVdp f).z = s.z := rfl
@[simp] theorem State.onVdp_m (f : Vdp → Vdp) : (s.onVdp f).m = s.m := rfl
@[simp] theorem State.onVdp_ic (f : Vdp → Vdp) : (s.onVdp f).ic = s.ic := rfl
@[simp] theorem State.onVdp_vdp (f : Vdp → Vdp) : (s.onVdp f).vdp = f s.vdp := rfl
@[simp] theorem State.onVdp_mem (f : Vdp → Vdp) : (s.onVdp f).mem = s.mem := rfl
@[simp] theorem State.onVdp_phase (f : Vdp → Vdp) : (s.onVdp f).phase = s.phase := rfl
@[simp] theorem State.onVdp_quota (f : Vdp → Vdp) : (s.onVdp f).quota = s.quota := rfl
@[simp] theorem State.onVdp_inTurn (f : Vdp → Vdp) : (s.onVdp f).inTurn = s.inTurn := rfl
@[simp] theorem State.onVdp_lines (f : Vdp → Vdp) : (s.onVdp f).lines = s.lines := rfl
@[simp] theorem State.onVdp_hookIn (f : Vdp → Vdp) : (s.onVdp f).hookIn = s.hookIn := rfl
@[simp] theorem State.onVdp_polls (f : Vdp → Vdp) : (s.onVdp f).polls = s.polls := rfl
@[simp] theorem State.onVdp_tick (f : Vdp → Vdp) : (s.onVdp f).tick = s.tick := rfl
@[simp] theorem State.onVdp_events (f : Vdp → Vdp) : (s.onVdp f).events = s.events := rfl

@[simp] theorem State.emit_cfg (e : Event) : (s.emit e).cfg = s.cfg := rfl
@[simp] theorem State.emit_z (e : Event) : (s.emit e).z = s.z := rfl
@[simp] theorem State.emit_m (e : Event) : (s.emit e).m = s.m := rfl
@[simp] theorem State.emit_ic (e : Event) : (s.emit e).ic = s.ic := rfl
@[simp] theorem State.emit_vdp (e : Event) : (s.emit e).vdp = s.vdp := rfl
@[simp] theorem State.emit_mem (e : Event) : (s.emit e).mem = s.mem := rfl
@[simp] theorem State.emit_phase (e : Event) : (s.emit e).phase = s.phase := rfl
@[simp] theorem State.emit_quota (e : Event) : (s.emit e).quota = s.quota := rfl
@[simp] theorem State.emit_inTurn (e : Event) : (s.emit e).inTurn = s.inTurn := rfl
@[simp] theorem State.emit_lines (e : Event) : (s.emit e).lines = s.lines := rfl
@[simp] theorem State.emit_hookIn (e : Event) : (s.emit e).hookIn = s.hookIn := rfl
@[simp] theorem State.emit_polls (e : Event) : (s.emit e).polls = s.polls := rfl
@[simp] theorem State.emit_tick (e : Event) : (s.emit e).tick = s.tick := rfl
@[simp] theorem State.emit_events (e : Event) : (s.emit e).events = e :: s.events := rfl

@[simp] theorem cycZ_cfg (n : Nat) : (cycZ n s).cfg = s.cfg := rfl
@[simp] theorem cycZ_z (n : Nat) : (cycZ n s).z = { s.z with icount := s.z.icount - n } := rfl
@[simp] theorem cycZ_m (n : Nat) : (cycZ n s).m = s.m := rfl
@[simp] theorem cycZ_ic (n : Nat) : (cycZ n s).ic = s.ic := rfl
@[simp] theorem cycZ_vdp (n : Nat) : (cycZ n s).vdp = s.vdp := rfl
@[simp] theorem cycZ_mem (n : Nat) : (cycZ n s).mem = s.mem := rfl
@[simp] theorem cycZ_phase (n : Nat) : (cycZ n s).phase = s.phase := rfl
@[simp] theorem cycZ_quota (n : Nat) : (cycZ n s).quota = s.quota := rfl
@[simp] theorem cycZ_inTurn (n : Nat) : (cycZ n s).inTurn = s.inTurn := rfl
@[simp] theorem cycZ_lines (n : Nat) : (cycZ n s).lines = s.lines := rfl
@[simp] theorem cycZ_hookIn (n : Nat) : (cycZ n s).hookIn = s.hookIn := rfl
@[simp] theorem cycZ_polls (n : Nat) : (cycZ n s).polls = s.polls := rfl
@[simp] theorem cycZ_tick (n : Nat) : (cycZ n s).tick = s.tick := rfl
@[simp] theorem cycZ_events (n : Nat) : (cycZ n s).events = s.events := rfl

@[simp] theorem cycM_cfg (n : Nat) : (cycM n s).cfg = s.cfg := rfl
@[simp] theorem cycM_z (n : Nat) : (cycM n s).z = s.z := rfl
@[simp] theorem cycM_m (n : Nat) : (cycM n s).m = { s.m with cycLine := s.m.cycLine + n } := rfl
@[simp] theorem cycM_ic (n : Nat) : (cycM n s).ic = s.ic := rfl
@[simp] theorem cycM_vdp (n : Nat) : (cycM n s).vdp = s.vdp := rfl
@[simp] theorem cycM_mem (n : Nat) : (cycM n s).mem = s.mem := rfl
@[simp] theorem cycM_phase (n : Nat) : (cycM n s).phase = s.phase := rfl
@[simp] theorem cycM_quota (n : Nat) : (cycM n s).quota = s.quota := rfl
@[simp] theorem cycM_inTurn (n : Nat) : (cycM n s).inTurn = s.inTurn := rfl
@[simp] theorem cycM_lines (n : Nat) : (cycM n s).lines = s.lines := rfl
@[simp] theorem cycM_hookIn (n : Nat) : (cycM n s).hookIn = s.hookIn := rfl
@[simp] theorem cycM_polls (n : Nat) : (cycM n s).polls = s.polls := rfl
@[simp] theorem cycM_tick (n : Nat) : (cycM n s).tick = s.tick := rfl
@[simp] theorem cycM_events (n : Nat) : (cycM n s).events = s.events := rfl

@[simp] theorem jumpZ_cfg (a : Word) : (jumpZ a s).cfg = s.cfg := rfl
@[simp] theorem jumpZ_z (a : Word) : (jumpZ a s).z = { s.z with pc := a } := rfl
@[simp] theorem jumpZ_m (a : Word) : (jumpZ a s).m = s.m := rfl
@[simp] theorem jumpZ_ic (a : Word) : (jumpZ a s).ic = s.ic := rfl
@[simp] theorem jumpZ_vdp (a : Word) : (jumpZ a s).vdp = s.vdp := rfl
@[simp] theorem jumpZ_mem (a : Word) : (jumpZ a s).mem = s.mem := rfl
@[simp] theorem jumpZ_phase (a : Word) : (jumpZ a s).phase = s.phase := rfl
@[simp] theorem jumpZ_quota (a : Word) : (jumpZ a s).quota = s.quota := rfl
@[simp] theorem jumpZ_inTurn (a : Word) : (jumpZ a s).inTurn = s.inTurn := rfl
@[simp] theorem jumpZ_lines (a : Word) : (jumpZ a s).lines = s.lines := rfl
@[simp] theorem jumpZ_hookIn (a : Word) : (jumpZ a s).hookIn = s.hookIn := rfl
@[simp] theorem jumpZ_polls (a : Word) : (jumpZ a s).polls = s.polls := rfl
@[simp] theorem jumpZ_tick (a : Word) : (jumpZ a s).tick = s.tick := rfl
@[simp] theorem jumpZ_events (a : Word) : (jumpZ a s).events = s.events := rfl

/-- Two changes of the Z80 record are one. -/
@[simp] theorem State.onZ_onZ (f g : Z80 → Z80) : (s.onZ f).onZ g = s.onZ fun z => g (f z) := rfl

/-- Two changes of the 6502 record are one. -/
@[simp] theorem State.onM_onM (f g : M6502 → M6502) : (s.onM f).onM g = s.onM fun m => g (f m) := rfl

/-- Two changes of the VDP record are one. -/
@[simp] theorem State.onVdp_onVdp (f g : Vdp → Vdp) : (s.onVdp f).onVdp g = s.onVdp fun v => g (f v) := rfl

/-- The byte at an address depends on the memory only. -/
theorem State.ramByte_congr (s t : State) (h : t.mem = s.mem) (a : Word) : t.ramByte a = s.ramByte a := by
  unfold State.ramByte
  rw [h]

end Sys2Proof.Machine
end

