-- ==== Sys2Proof/Laws/Ops.lean ====
section
/-! SUPPORT. What each shared operation can do, said once: which fields it keeps in every case, and what it gives on plain RAM. -/
namespace Sys2Proof.Machine
set_option Elab.async false

variable (s : State)

/-! ## The VDP's ports -/

@[simp] theorem writeRegister_cfg (i v : Byte) : ((writeRegister i v s).2).cfg = s.cfg := by unfold writeRegister; simp only; split <;> rfl
@[simp] theorem writeRegister_z (i v : Byte) : ((writeRegister i v s).2).z = s.z := by unfold writeRegister; simp only; split <;> rfl
@[simp] theorem writeRegister_m (i v : Byte) : ((writeRegister i v s).2).m = s.m := by unfold writeRegister; simp only; split <;> rfl
@[simp] theorem writeRegister_ic (i v : Byte) : ((writeRegister i v s).2).ic = s.ic := by unfold writeRegister; simp only; split <;> rfl
@[simp] theorem writeRegister_mem (i v : Byte) : ((writeRegister i v s).2).mem = s.mem := by unfold writeRegister; simp only; split <;> rfl
@[simp] theorem writeRegister_phase (i v : Byte) : ((writeRegister i v s).2).phase = s.phase := by unfold writeRegister; simp only; split <;> rfl
@[simp] theorem writeRegister_quota (i v : Byte) : ((writeRegister i v s).2).quota = s.quota := by unfold writeRegister; simp only; split <;> rfl
@[simp] theorem writeRegister_inTurn (i v : Byte) : ((writeRegister i v s).2).inTurn = s.inTurn := by unfold writeRegister; simp only; split <;> rfl
@[simp] theorem writeRegister_lines (i v : Byte) : ((writeRegister i v s).2).lines = s.lines := by unfold writeRegister; simp only; split <;> rfl
@[simp] theorem writeRegister_hookIn (i v : Byte) : ((writeRegister i v s).2).hookIn = s.hookIn := by unfold writeRegister; simp only; split <;> rfl
@[simp] theorem writeRegister_polls (i v : Byte) : ((writeRegister i v s).2).polls = s.polls := by unfold writeRegister; simp only; split <;> rfl
@[simp] theorem writeRegister_tick (i v : Byte) : ((writeRegister i v s).2).tick = s.tick := by unfold writeRegister; simp only; split <;> rfl

@[simp] theorem writeControlPort_cfg (b : Byte) : ((writeControlPort b s).2).cfg = s.cfg := by unfold writeControlPort; split <;> (try split) <;> simp
@[simp] theorem writeControlPort_z (b : Byte) : ((writeControlPort b s).2).z = s.z := by unfold writeControlPort; split <;> (try split) <;> simp
@[simp] theorem writeControlPort_m (b : Byte) : ((writeControlPort b s).2).m = s.m := by unfold writeControlPort; split <;> (try split) <;> simp
@[simp] theorem writeControlPort_ic (b : Byte) : ((writeControlPort b s).2).ic = s.ic := by unfold writeControlPort; split <;> (try split) <;> simp
@[simp] theorem writeControlPort_mem (b : Byte) : ((writeControlPort b s).2).mem = s.mem := by unfold writeControlPort; split <;> (try split) <;> simp
@[simp] theorem writeControlPort_phase (b : Byte) : ((writeControlPort b s).2).phase = s.phase := by unfold writeControlPort; split <;> (try split) <;> simp
@[simp] theorem writeControlPort_quota (b : Byte) : ((writeControlPort b s).2).quota = s.quota := by unfold writeControlPort; split <;> (try split) <;> simp
@[simp] theorem writeControlPort_inTurn (b : Byte) : ((writeControlPort b s).2).inTurn = s.inTurn := by unfold writeControlPort; split <;> (try split) <;> simp
@[simp] theorem writeControlPort_lines (b : Byte) : ((writeControlPort b s).2).lines = s.lines := by unfold writeControlPort; split <;> (try split) <;> simp
@[simp] theorem writeControlPort_hookIn (b : Byte) : ((writeControlPort b s).2).hookIn = s.hookIn := by unfold writeControlPort; split <;> (try split) <;> simp
@[simp] theorem writeControlPort_polls (b : Byte) : ((writeControlPort b s).2).polls = s.polls := by unfold writeControlPort; split <;> (try split) <;> simp
@[simp] theorem writeControlPort_tick (b : Byte) : ((writeControlPort b s).2).tick = s.tick := by unfold writeControlPort; split <;> (try split) <;> simp

@[simp] theorem readControlPort_cfg  : ((readControlPort s).2).cfg = s.cfg := by rfl
@[simp] theorem readControlPort_z  : ((readControlPort s).2).z = s.z := by rfl
@[simp] theorem readControlPort_m  : ((readControlPort s).2).m = s.m := by rfl
@[simp] theorem readControlPort_ic  : ((readControlPort s).2).ic = s.ic := by rfl
@[simp] theorem readControlPort_mem  : ((readControlPort s).2).mem = s.mem := by rfl
@[simp] theorem readControlPort_phase  : ((readControlPort s).2).phase = s.phase := by rfl
@[simp] theorem readControlPort_quota  : ((readControlPort s).2).quota = s.quota := by rfl
@[simp] theorem readControlPort_inTurn  : ((readControlPort s).2).inTurn = s.inTurn := by rfl
@[simp] theorem readControlPort_lines  : ((readControlPort s).2).lines = s.lines := by rfl
@[simp] theorem readControlPort_hookIn  : ((readControlPort s).2).hookIn = s.hookIn := by rfl
@[simp] theorem readControlPort_polls  : ((readControlPort s).2).polls = s.polls := by rfl
@[simp] theorem readControlPort_tick  : ((readControlPort s).2).tick = s.tick := by rfl
@[simp] theorem readControlPort_events  : ((readControlPort s).2).events = s.events := by rfl

@[simp] theorem readDataPort_cfg  : ((readDataPort s).2).cfg = s.cfg := by rfl
@[simp] theorem readDataPort_z  : ((readDataPort s).2).z = s.z := by rfl
@[simp] theorem readDataPort_m  : ((readDataPort s).2).m = s.m := by rfl
@[simp] theorem readDataPort_ic  : ((readDataPort s).2).ic = s.ic := by rfl
@[simp] theorem readDataPort_mem  : ((readDataPort s).2).mem = s.mem := by rfl
@[simp] theorem readDataPort_phase  : ((readDataPort s).2).phase = s.phase := by rfl
@[simp] theorem readDataPort_quota  : ((readDataPort s).2).quota = s.quota := by rfl
@[simp] theorem readDataPort_inTurn  : ((readDataPort s).2).inTurn = s.inTurn := by rfl
@[simp] theorem readDataPort_lines  : ((readDataPort s).2).lines = s.lines := by rfl
@[simp] theorem readDataPort_hookIn  : ((readDataPort s).2).hookIn = s.hookIn := by rfl
@[simp] theorem readDataPort_polls  : ((readDataPort s).2).polls = s.polls := by rfl
@[simp] theorem readDataPort_tick  : ((readDataPort s).2).tick = s.tick := by rfl
@[simp] theorem readDataPort_events  : ((readDataPort s).2).events = s.events := by rfl

@[simp] theorem writeDataPort_cfg (b : Byte) : (writeDataPort b s).cfg = s.cfg := by rfl
@[simp] theorem writeDataPort_z (b : Byte) : (writeDataPort b s).z = s.z := by rfl
@[simp] theorem writeDataPort_m (b : Byte) : (writeDataPort b s).m = s.m := by rfl
@[simp] theorem writeDataPort_ic (b : Byte) : (writeDataPort b s).ic = s.ic := by rfl
@[simp] theorem writeDataPort_mem (b : Byte) : (writeDataPort b s).mem = s.mem := by rfl
@[simp] theorem writeDataPort_phase (b : Byte) : (writeDataPort b s).phase = s.phase := by rfl
@[simp] theorem writeDataPort_quota (b : Byte) : (writeDataPort b s).quota = s.quota := by rfl
@[simp] theorem writeDataPort_inTurn (b : Byte) : (writeDataPort b s).inTurn = s.inTurn := by rfl
@[simp] theorem writeDataPort_lines (b : Byte) : (writeDataPort b s).lines = s.lines := by rfl
@[simp] theorem writeDataPort_hookIn (b : Byte) : (writeDataPort b s).hookIn = s.hookIn := by rfl
@[simp] theorem writeDataPort_polls (b : Byte) : (writeDataPort b s).polls = s.polls := by rfl
@[simp] theorem writeDataPort_tick (b : Byte) : (writeDataPort b s).tick = s.tick := by rfl
@[simp] theorem writeDataPort_events (b : Byte) : (writeDataPort b s).events = s.events := by rfl

/-! ## Requests -/

@[simp] theorem inject_cfg (r : Request) : (inject r s).cfg = s.cfg := by cases r <;> rfl
@[simp] theorem inject_z (r : Request) : (inject r s).z = s.z := by cases r <;> rfl
@[simp] theorem inject_m (r : Request) : (inject r s).m = s.m := by cases r <;> rfl
@[simp] theorem inject_vdp (r : Request) : (inject r s).vdp = s.vdp := by cases r <;> rfl
@[simp] theorem inject_mem (r : Request) : (inject r s).mem = s.mem := by cases r <;> rfl
@[simp] theorem inject_phase (r : Request) : (inject r s).phase = s.phase := by cases r <;> rfl
@[simp] theorem inject_quota (r : Request) : (inject r s).quota = s.quota := by cases r <;> rfl
@[simp] theorem inject_inTurn (r : Request) : (inject r s).inTurn = s.inTurn := by cases r <;> rfl
@[simp] theorem inject_lines (r : Request) : (inject r s).lines = s.lines := by cases r <;> rfl
@[simp] theorem inject_hookIn (r : Request) : (inject r s).hookIn = s.hookIn := by cases r <;> rfl
@[simp] theorem inject_polls (r : Request) : (inject r s).polls = s.polls := by cases r <;> rfl
@[simp] theorem inject_tick (r : Request) : (inject r s).tick = s.tick := by cases r <;> rfl
@[simp] theorem inject_events (r : Request) : (inject r s).events = s.events := by cases r <;> rfl

/-- Routing changes the latches only. -/
theorem routeIrq_keeps (p : Bool × State) : routeIrq p = { p.2 with ic := (routeIrq p).ic } := by
  unfold routeIrq
  split
  · cases h : vdpRequest p.2.cfg <;> rfl
  · rfl

@[simp] theorem routeIrq_cfg (p : Bool × State) : (routeIrq p).cfg = p.2.cfg := by unfold routeIrq; split <;> simp
@[simp] theorem routeIrq_z (p : Bool × State) : (routeIrq p).z = p.2.z := by unfold routeIrq; split <;> simp
@[simp] theorem routeIrq_m (p : Bool × State) : (routeIrq p).m = p.2.m := by unfold routeIrq; split <;> simp
@[simp] theorem routeIrq_vdp (p : Bool × State) : (routeIrq p).vdp = p.2.vdp := by unfold routeIrq; split <;> simp
@[simp] theorem routeIrq_mem (p : Bool × State) : (routeIrq p).mem = p.2.mem := by unfold routeIrq; split <;> simp
@[simp] theorem routeIrq_phase (p : Bool × State) : (routeIrq p).phase = p.2.phase := by unfold routeIrq; split <;> simp
@[simp] theorem routeIrq_quota (p : Bool × State) : (routeIrq p).quota = p.2.quota := by unfold routeIrq; split <;> simp
@[simp] theorem routeIrq_inTurn (p : Bool × State) : (routeIrq p).inTurn = p.2.inTurn := by unfold routeIrq; split <;> simp
@[simp] theorem routeIrq_lines (p : Bool × State) : (routeIrq p).lines = p.2.lines := by unfold routeIrq; split <;> simp
@[simp] theorem routeIrq_hookIn (p : Bool × State) : (routeIrq p).hookIn = p.2.hookIn := by unfold routeIrq; split <;> simp
@[simp] theorem routeIrq_polls (p : Bool × State) : (routeIrq p).polls = p.2.polls := by unfold routeIrq; split <;> simp
@[simp] theorem routeIrq_tick (p : Bool × State) : (routeIrq p).tick = p.2.tick := by unfold routeIrq; split <;> simp
@[simp] theorem routeIrq_events (p : Bool × State) : (routeIrq p).events = p.2.events := by unfold routeIrq; split <;> simp

/-! ## Calls from outside, hook replies -/

@[simp] theorem runCall_cfg (c : CoreCall) : (runCall c s).cfg = s.cfg := by cases c <;> simp [runCall]
@[simp] theorem runCall_z (c : CoreCall) : (runCall c s).z = s.z := by cases c <;> simp [runCall]
@[simp] theorem runCall_m (c : CoreCall) : (runCall c s).m = s.m := by cases c <;> simp [runCall]
@[simp] theorem runCall_mem (c : CoreCall) : (runCall c s).mem = s.mem := by cases c <;> simp [runCall]
@[simp] theorem runCall_phase (c : CoreCall) : (runCall c s).phase = s.phase := by cases c <;> simp [runCall]
@[simp] theorem runCall_quota (c : CoreCall) : (runCall c s).quota = s.quota := by cases c <;> simp [runCall]
@[simp] theorem runCall_inTurn (c : CoreCall) : (runCall c s).inTurn = s.inTurn := by cases c <;> simp [runCall]
@[simp] theorem runCall_lines (c : CoreCall) : (runCall c s).lines = s.lines := by cases c <;> simp [runCall]
@[simp] theorem runCall_polls (c : CoreCall) : (runCall c s).polls = s.polls := by cases c <;> simp [runCall]
@[simp] theorem runCall_hookIn (c : CoreCall) : (runCall c s).hookIn = s.hookIn := by cases c <;> simp [runCall]
@[simp] theorem runCall_tick (c : CoreCall) : (runCall c s).tick = s.tick := by cases c <;> simp [runCall]

@[simp] theorem runCalls_cfg (l : List CoreCall) : (runCalls l s).cfg = s.cfg := by
  induction l generalizing s <;> simp_all [runCalls]
@[simp] theorem runCalls_z (l : List CoreCall) : (runCalls l s).z = s.z := by
  induction l generalizing s <;> simp_all [runCalls]
@[simp] theorem runCalls_m (l : List CoreCall) : (runCalls l s).m = s.m := by
  induction l generalizing s <;> simp_all [runCalls]
@[simp] theorem runCalls_mem (l : List CoreCall) : (runCalls l s).mem = s.mem := by
  induction l generalizing s <;> simp_all [runCalls]
@[simp] theorem runCalls_phase (l : List CoreCall) : (runCalls l s).phase = s.phase := by
  induction l generalizing s <;> simp_all [runCalls]
@[simp] theorem runCalls_quota (l : List CoreCall) : (runCalls l s).quota = s.quota := by
  induction l generalizing s <;> simp_all [runCalls]
@[simp] theorem runCalls_inTurn (l : List CoreCall) : (runCalls l s).inTurn = s.inTurn := by
  induction l generalizing s <;> simp_all [runCalls]
@[simp] theorem runCalls_lines (l : List CoreCall) : (runCalls l s).lines = s.lines := by
  induction l generalizing s <;> simp_all [runCalls]
@[simp] theorem runCalls_polls (l : List CoreCall) : (runCalls l s).polls = s.polls := by
  induction l generalizing s <;> simp_all [runCalls]
@[simp] theorem runCalls_hookIn (l : List CoreCall) : (runCalls l s).hookIn = s.hookIn := by
  induction l generalizing s <;> simp_all [runCalls]
@[simp] theorem runCalls_tick (l : List CoreCall) : (runCalls l s).tick = s.tick := by
  induction l generalizing s <;> simp_all [runCalls]

@[simp] theorem takeReply_cfg : (takeReply s).2.cfg = s.cfg := by unfold takeReply; split <;> rfl
@[simp] theorem takeReply_z : (takeReply s).2.z = s.z := by unfold takeReply; split <;> rfl
@[simp] theorem takeReply_m : (takeReply s).2.m = s.m := by unfold takeReply; split <;> rfl
@[simp] theorem takeReply_mem : (takeReply s).2.mem = s.mem := by unfold takeReply; split <;> rfl
@[simp] theorem takeReply_phase : (takeReply s).2.phase = s.phase := by unfold takeReply; split <;> rfl
@[simp] theorem takeReply_quota : (takeReply s).2.quota = s.quota := by unfold takeReply; split <;> rfl
@[simp] theorem takeReply_inTurn : (takeReply s).2.inTurn = s.inTurn := by unfold takeReply; split <;> rfl
@[simp] theorem takeReply_lines : (takeReply s).2.lines = s.lines := by unfold takeReply; split <;> rfl
@[simp] theorem takeReply_polls : (takeReply s).2.polls = s.polls := by unfold takeReply; split <;> rfl
@[simp] theorem takeReply_ic : (takeReply s).2.ic = s.ic := by unfold takeReply; split <;> rfl
@[simp] theorem takeReply_vdp : (takeReply s).2.vdp = s.vdp := by unfold takeReply; split <;> rfl
@[simp] theorem takeReply_events : (takeReply s).2.events = s.events := by unfold takeReply; split <;> rfl

@[simp] theorem externalRead_cfg (mk : Byte → Event) : (externalRead mk s).2.cfg = s.cfg := by simp [externalRead]
@[simp] theorem externalRead_z (mk : Byte → Event) : (externalRead mk s).2.z = s.z := by simp [externalRead]
@[simp] theorem externalRead_m (mk : Byte → Event) : (externalRead mk s).2.m = s.m := by simp [externalRead]
@[simp] theorem externalRead_mem (mk : Byte → Event) : (externalRead mk s).2.mem = s.mem := by simp [externalRead]
@[simp] theorem externalRead_phase (mk : Byte → Event) : (externalRead mk s).2.phase = s.phase := by simp [externalRead]
@[simp] theorem externalRead_quota (mk : Byte → Event) : (externalRead mk s).2.quota = s.quota := by simp [externalRead]
@[simp] theorem externalRead_inTurn (mk : Byte → Event) : (externalRead mk s).2.inTurn = s.inTurn := by simp [externalRead]
@[simp] theorem externalRead_lines (mk : Byte → Event) : (externalRead mk s).2.lines = s.lines := by simp [externalRead]
@[simp] theorem externalRead_polls (mk : Byte → Event) : (externalRead mk s).2.polls = s.polls := by simp [externalRead]

@[simp] theorem externalWrite_cfg : (externalWrite s).cfg = s.cfg := by simp [externalWrite]
@[simp] theorem externalWrite_z : (externalWrite s).z = s.z := by simp [externalWrite]
@[simp] theorem externalWrite_m : (externalWrite s).m = s.m := by simp [externalWrite]
@[simp] theorem externalWrite_mem : (externalWrite s).mem = s.mem := by simp [externalWrite]
@[simp] theorem externalWrite_phase : (externalWrite s).phase = s.phase := by simp [externalWrite]
@[simp] theorem externalWrite_quota : (externalWrite s).quota = s.quota := by simp [externalWrite]
@[simp] theorem externalWrite_inTurn : (externalWrite s).inTurn = s.inTurn := by simp [externalWrite]
@[simp] theorem externalWrite_lines : (externalWrite s).lines = s.lines := by simp [externalWrite]
@[simp] theorem externalWrite_polls : (externalWrite s).polls = s.polls := by simp [externalWrite]

/-! ## Memory and ports -/


@[simp] theorem memRead_cfg (a : Word) : ((memRead a s).2).cfg = s.cfg := by unfold memRead; split <;> simp
@[simp] theorem memRead_z (a : Word) : ((memRead a s).2).z = s.z := by unfold memRead; split <;> simp
@[simp] theorem memRead_m (a : Word) : ((memRead a s).2).m = s.m := by unfold memRead; split <;> simp
@[simp] theorem memRead_mem (a : Word) : ((memRead a s).2).mem = s.mem := by unfold memRead; split <;> simp
@[simp] theorem memRead_phase (a : Word) : ((memRead a s).2).phase = s.phase := by unfold memRead; split <;> simp
@[simp] theorem memRead_quota (a : Word) : ((memRead a s).2).quota = s.quota := by unfold memRead; split <;> simp
@[simp] theorem memRead_inTurn (a : Word) : ((memRead a s).2).inTurn = s.inTurn := by unfold memRead; split <;> simp
@[simp] theorem memRead_lines (a : Word) : ((memRead a s).2).lines = s.lines := by unfold memRead; split <;> simp
@[simp] theorem memRead_polls (a : Word) : ((memRead a s).2).polls = s.polls := by unfold memRead; split <;> simp

@[simp] theorem takeByte_cfg (a : Word) (v : Byte) : (takeByte a v s).cfg = s.cfg := by unfold takeByte; split <;> simp
@[simp] theorem memWrite_cfg (a : Word) (v : Byte) : (memWrite a v s).cfg = s.cfg := by simp [memWrite]
@[simp] theorem takeByte_z (a : Word) (v : Byte) : (takeByte a v s).z = s.z := by unfold takeByte; split <;> simp
@[simp] theorem memWrite_z (a : Word) (v : Byte) : (memWrite a v s).z = s.z := by simp [memWrite]
@[simp] theorem takeByte_m (a : Word) (v : Byte) : (takeByte a v s).m = s.m := by unfold takeByte; split <;> simp
@[simp] theorem memWrite_m (a : Word) (v : Byte) : (memWrite a v s).m = s.m := by simp [memWrite]
@[simp] theorem takeByte_phase (a : Word) (v : Byte) : (takeByte a v s).phase = s.phase := by unfold takeByte; split <;> simp
@[simp] theorem memWrite_phase (a : Word) (v : Byte) : (memWrite a v s).phase = s.phase := by simp [memWrite]
@[simp] theorem takeByte_quota (a : Word) (v : Byte) : (takeByte a v s).quota = s.quota := by unfold takeByte; split <;> simp
@[simp] theorem memWrite_quota (a : Word) (v : Byte) : (memWrite a v s).quota = s.quota := by simp [memWrite]
@[simp] theorem takeByte_inTurn (a : Word) (v : Byte) : (takeByte a v s).inTurn = s.inTurn := by unfold takeByte; split <;> simp
@[simp] theorem memWrite_inTurn (a : Word) (v : Byte) : (memWrite a v s).inTurn = s.inTurn := by simp [memWrite]
@[simp] theorem takeByte_lines (a : Word) (v : Byte) : (takeByte a v s).lines = s.lines := by unfold takeByte; split <;> simp
@[simp] theorem memWrite_lines (a : Word) (v : Byte) : (memWrite a v s).lines = s.lines := by simp [memWrite]
@[simp] theorem takeByte_polls (a : Word) (v : Byte) : (takeByte a v s).polls = s.polls := by unfold takeByte; split <;> simp
@[simp] theorem memWrite_polls (a : Word) (v : Byte) : (memWrite a v s).polls = s.polls := by simp [memWrite]

@[simp] theorem portIn_cfg (p : Word) : ((portIn p s).2).cfg = s.cfg := by unfold portIn; split <;> simp
@[simp] theorem portIn_z (p : Word) : ((portIn p s).2).z = s.z := by unfold portIn; split <;> simp
@[simp] theorem portIn_m (p : Word) : ((portIn p s).2).m = s.m := by unfold portIn; split <;> simp
@[simp] theorem portIn_mem (p : Word) : ((portIn p s).2).mem = s.mem := by unfold portIn; split <;> simp
@[simp] theorem portIn_phase (p : Word) : ((portIn p s).2).phase = s.phase := by unfold portIn; split <;> simp
@[simp] theorem portIn_quota (p : Word) : ((portIn p s).2).quota = s.quota := by unfold portIn; split <;> simp
@[simp] theorem portIn_inTurn (p : Word) : ((portIn p s).2).inTurn = s.inTurn := by unfold portIn; split <;> simp
@[simp] theorem portIn_lines (p : Word) : ((portIn p s).2).lines = s.lines := by unfold portIn; split <;> simp
@[simp] theorem portIn_polls (p : Word) : ((portIn p s).2).polls = s.polls := by unfold portIn; split <;> simp

@[simp] theorem takePort_cfg (p : Word) (v : Byte) : (takePort p v s).cfg = s.cfg := by unfold takePort; split <;> simp
@[simp] theorem portOut_cfg (p : Word) (v : Byte) : (portOut p v s).cfg = s.cfg := by simp [portOut]
@[simp] theorem takePort_z (p : Word) (v : Byte) : (takePort p v s).z = s.z := by unfold takePort; split <;> simp
@[simp] theorem portOut_z (p : Word) (v : Byte) : (portOut p v s).z = s.z := by simp [portOut]
@[simp] theorem takePort_m (p : Word) (v : Byte) : (takePort p v s).m = s.m := by unfold takePort; split <;> simp
@[simp] theorem portOut_m (p : Word) (v : Byte) : (portOut p v s).m = s.m := by simp [portOut]
@[simp] theorem takePort_mem (p : Word) (v : Byte) : (takePort p v s).mem = s.mem := by unfold takePort; split <;> simp
@[simp] theorem portOut_mem (p : Word) (v : Byte) : (portOut p v s).mem = s.mem := by simp [portOut]
@[simp] theorem takePort_phase (p : Word) (v : Byte) : (takePort p v s).phase = s.phase := by unfold takePort; split <;> simp
@[simp] theorem portOut_phase (p : Word) (v : Byte) : (portOut p v s).phase = s.phase := by simp [portOut]
@[simp] theorem takePort_quota (p : Word) (v : Byte) : (takePort p v s).quota = s.quota := by unfold takePort; split <;> simp
@[simp] theorem portOut_quota (p : Word) (v : Byte) : (portOut p v s).quota = s.quota := by simp [portOut]
@[simp] theorem takePort_inTurn (p : Word) (v : Byte) : (takePort p v s).inTurn = s.inTurn := by unfold takePort; split <;> simp
@[simp] theorem portOut_inTurn (p : Word) (v : Byte) : (portOut p v s).inTurn = s.inTurn := by simp [portOut]
@[simp] theorem takePort_lines (p : Word) (v : Byte) : (takePort p v s).lines = s.lines := by unfold takePort; split <;> simp
@[simp] theorem portOut_lines (p : Word) (v : Byte) : (portOut p v s).lines = s.lines := by simp [portOut]
@[simp] theorem takePort_polls (p : Word) (v : Byte) : (takePort p v s).polls = s.polls := by unfold takePort; split <;> simp
@[simp] theorem portOut_polls (p : Word) (v : Byte) : (portOut p v s).polls = s.polls := by simp [portOut]

@[simp] theorem memRead16_cfg (a : Word) : ((memRead16 a s).2).cfg = s.cfg := by simp [memRead16]
@[simp] theorem memRead16_z (a : Word) : ((memRead16 a s).2).z = s.z := by simp [memRead16]
@[simp] theorem memRead16_m (a : Word) : ((memRead16 a s).2).m = s.m := by simp [memRead16]
@[simp] theorem memRead16_mem (a : Word) : ((memRead16 a s).2).mem = s.mem := by simp [memRead16]
@[simp] theorem memRead16_phase (a : Word) : ((memRead16 a s).2).phase = s.phase := by simp [memRead16]
@[simp] theorem memRead16_quota (a : Word) : ((memRead16 a s).2).quota = s.quota := by simp [memRead16]
@[simp] theorem memRead16_inTurn (a : Word) : ((memRead16 a s).2).inTurn = s.inTurn := by simp [memRead16]
@[simp] theorem memRead16_lines (a : Word) : ((memRead16 a s).2).lines = s.lines := by simp [memRead16]
@[simp] theorem memRead16_polls (a : Word) : ((memRead16 a s).2).polls = s.polls := by simp [memRead16]

@[simp] theorem memWrite16_cfg (a v : Word) : (memWrite16 a v s).cfg = s.cfg := by simp [memWrite16]
@[simp] theorem memWrite16_z (a v : Word) : (memWrite16 a v s).z = s.z := by simp [memWrite16]
@[simp] theorem memWrite16_m (a v : Word) : (memWrite16 a v s).m = s.m := by simp [memWrite16]
@[simp] theorem memWrite16_phase (a v : Word) : (memWrite16 a v s).phase = s.phase := by simp [memWrite16]
@[simp] theorem memWrite16_quota (a v : Word) : (memWrite16 a v s).quota = s.quota := by simp [memWrite16]
@[simp] theorem memWrite16_inTurn (a v : Word) : (memWrite16 a v s).inTurn = s.inTurn := by simp [memWrite16]
@[simp] theorem memWrite16_lines (a v : Word) : (memWrite16 a v s).lines = s.lines := by simp [memWrite16]
@[simp] theorem memWrite16_polls (a v : Word) : (memWrite16 a v s).polls = s.polls := by simp [memWrite16]

/-- A read of plain RAM gives the byte there and changes nothing. -/
theorem memRead_plain (a : Word) (h : routeOf s.cfg.memMap a = some .ram) : memRead a s = (s.ramByte a, s) := by
  unfold memRead
  rw [h]

/-- A write to plain RAM stores the byte, is recorded, and changes nothing else. -/
theorem memWrite_plain (a : Word) (v : Byte) (h : routeOf s.cfg.memMap a = some .ram) :
    memWrite a v s = { s with mem := Memory.write s.mem a.toNat v, events := .writeByte a v :: s.events } := by
  unfold memWrite takeByte
  rw [State.emit_cfg, h]
  rfl

/-- A write to plain RAM is what the next read of that byte gives. -/
theorem memWrite_ramByte_same (a : Word) (v : Byte) (h : routeOf s.cfg.memMap a = some .ram) :
    (memWrite a v s).ramByte a = v := by
  rw [memWrite_plain s a v h]
  exact Memory.read_write_same _ _ _

/-- A write leaves every other byte of RAM alone, wherever its address is routed. -/
theorem memWrite_ramByte_other (a b : Word) (v : Byte) (h : b ≠ a) : (memWrite a v s).ramByte b = s.ramByte b := by
  unfold memWrite takeByte
  split
  · exact Memory.read_write_other _ _ _ _ fun hn => h (BitVec.eq_of_toNat_eq hn)
  all_goals exact State.ramByte_congr _ _ (by simp) _

/-- A write keeps RAM in canonical form. -/
theorem memWrite_wf (a : Word) (v : Byte) (h : Memory.wf 65536 s.mem = true) : Memory.wf 65536 (memWrite a v s).mem = true := by
  unfold memWrite takeByte
  split
  · exact Memory.write_wf _ _ _ _ a.isLt h
  all_goals simpa using h

/-! ## The latches and the VDP across an access -/

/-- Every request latched in `s` is latched in `t` too: requests come, none is withdrawn (R824). -/
def KeepsLatched (s t : State) : Prop :=
  (s.ic.nmi = true → t.ic.nmi = true) ∧ (s.ic.int.isSome = true → t.ic.int.isSome = true) ∧ (s.ic.quit = true → t.ic.quit = true)

theorem KeepsLatched.of_ic {s t : State} (h : t.ic = s.ic) : KeepsLatched s t := by
  unfold KeepsLatched
  rw [h]
  exact ⟨id, id, id⟩

theorem KeepsLatched.trans {s t u : State} (h : KeepsLatched s t) (k : KeepsLatched t u) : KeepsLatched s u :=
  ⟨fun x => k.1 (h.1 x), fun x => k.2.1 (h.2.1 x), fun x => k.2.2 (h.2.2 x)⟩

theorem inject_keepsLatched (r : Request) : KeepsLatched s (inject r s) := by
  cases r <;> simp [KeepsLatched, inject]

theorem routeIrq_keepsLatched (p : Bool × State) : KeepsLatched p.2 (routeIrq p) := by
  unfold routeIrq
  split
  · exact inject_keepsLatched _ _
  · exact .of_ic rfl

theorem writePort_keepsLatched (b : Byte) : KeepsLatched s (routeIrq (writeControlPort b s)) :=
  .trans (.of_ic (writeControlPort_ic s b)) (routeIrq_keepsLatched _)

theorem runCalls_keepsLatched (l : List CoreCall) : KeepsLatched s (runCalls l s) := by
  induction l generalizing s with
  | nil => exact .of_ic rfl
  | cons c l ih =>
    refine .trans ?_ (ih _)
    cases c with
    | inject r => exact inject_keepsLatched s r
    | writeControlPort b => exact writePort_keepsLatched s b
    | _ => exact .of_ic rfl

theorem externalRead_keepsLatched (mk : Byte → Event) : KeepsLatched s (externalRead mk s).2 :=
  .trans (.of_ic (takeReply_ic s)) (runCalls_keepsLatched _ _)

theorem externalWrite_keepsLatched : KeepsLatched s (externalWrite s) :=
  .trans (.of_ic (takeReply_ic s)) (runCalls_keepsLatched _ _)

/-- No access withdraws a request (R824). -/
theorem memRead_keepsLatched (a : Word) : KeepsLatched s (memRead a s).2 := by
  unfold memRead
  split
  · exact .of_ic rfl
  · exact .of_ic rfl
  · exact .of_ic rfl
  · exact externalRead_keepsLatched s _

theorem memWrite_keepsLatched (a : Word) (v : Byte) : KeepsLatched s (memWrite a v s) := by
  unfold memWrite takeByte
  split
  · exact .of_ic rfl
  · exact writePort_keepsLatched (s.emit _) v
  · exact .of_ic rfl
  · exact externalWrite_keepsLatched (s.emit _)

theorem portIn_keepsLatched (p : Word) : KeepsLatched s (portIn p s).2 := by
  unfold portIn
  split
  · exact .of_ic rfl
  · exact .of_ic rfl
  · exact externalRead_keepsLatched s _

theorem portOut_keepsLatched (p : Word) (v : Byte) : KeepsLatched s (portOut p v s) := by
  unfold portOut takePort
  split
  · exact writePort_keepsLatched (s.emit _) v
  · exact .of_ic rfl
  · exact externalWrite_keepsLatched (s.emit _)

/-- The hooks' next `n` replies call nothing of the core, and nothing is routed to the VDP. -/
def Calm (n : Nat) (s : State) : Prop :=
  n ≤ s.hookIn.length ∧ (∀ r ∈ s.hookIn, r.calls = []) ∧ ∀ a, routeOf s.cfg.memMap a ≠ some .vdpControl ∧
    routeOf s.cfg.memMap a ≠ some .vdpData ∧ routeOf s.cfg.portMap a ≠ some .vdpControl ∧ routeOf s.cfg.portMap a ≠ some .vdpData

variable {s} in
theorem Calm.mono {n : Nat} (h : Calm (n + 1) s) : Calm n s := ⟨Nat.le_of_succ_le h.1, h.2.1, h.2.2⟩

variable {s} in
theorem Calm.emit {n : Nat} (h : Calm n s) (e : Event) : Calm n (s.emit e) := h

/-- Under calm hooks a reply calls nothing, and the next ones are calm. -/
theorem takeReply_calm {n : Nat} (h : Calm (n + 1) s) : (takeReply s).1.calls = [] ∧ Calm n (takeReply s).2 := by
  obtain ⟨h1, h2, h3⟩ := h
  cases hk : s.hookIn with
  | nil => simp [hk] at h1
  | cons r rest =>
    simp only [hk, List.length_cons, Nat.add_le_add_iff_right, List.mem_cons, forall_eq_or_imp] at h1 h2
    simp only [takeReply, hk]
    exact ⟨h2.1, h1, h2.2, h3⟩

theorem externalRead_calm {n : Nat} (mk : Byte → Event) (h : Calm (n + 1) s) :
    let t := (externalRead mk s).2
    t.vdp = s.vdp ∧ t.ic = s.ic ∧ Calm n t := by
  obtain ⟨hc, hn⟩ := takeReply_calm s h
  simp only [externalRead, hc, runCalls]
  exact ⟨by simp, by simp, hn⟩

theorem externalWrite_calm {n : Nat} (h : Calm (n + 1) s) :
    let t := externalWrite s
    t.vdp = s.vdp ∧ t.ic = s.ic ∧ Calm n t := by
  obtain ⟨hc, hn⟩ := takeReply_calm s h
  simp only [externalWrite, hc, runCalls]
  exact ⟨by simp, by simp, hn⟩

/-- Under calm hooks an access reaches neither the VDP nor a latch, and uses up one reply at most. -/
theorem memRead_calm {n : Nat} (a : Word) (h : Calm (n + 1) s) :
    let t := (memRead a s).2
    t.vdp = s.vdp ∧ t.ic = s.ic ∧ Calm n t := by
  unfold memRead
  split
  · exact ⟨rfl, rfl, h.mono⟩
  · exact absurd ‹_› (h.2.2 a).1
  · exact absurd ‹_› (h.2.2 a).2.1
  · exact externalRead_calm s _ h

theorem memWrite_calm {n : Nat} (a : Word) (v : Byte) (h : Calm (n + 1) s) :
    let t := memWrite a v s
    t.vdp = s.vdp ∧ t.ic = s.ic ∧ Calm n t := by
  unfold memWrite takeByte
  split
  · exact ⟨rfl, rfl, h.mono⟩
  · exact absurd ‹_› (h.2.2 a).1
  · exact absurd ‹_› (h.2.2 a).2.1
  · exact externalWrite_calm _ (h.emit _)

theorem portIn_calm {n : Nat} (p : Word) (h : Calm (n + 1) s) :
    let t := (portIn p s).2
    t.vdp = s.vdp ∧ t.ic = s.ic ∧ Calm n t := by
  unfold portIn
  split
  · exact absurd ‹_› (h.2.2 p).2.2.1
  · exact absurd ‹_› (h.2.2 p).2.2.2
  · exact externalRead_calm s _ h

theorem portOut_calm {n : Nat} (p : Word) (v : Byte) (h : Calm (n + 1) s) :
    let t := portOut p v s
    t.vdp = s.vdp ∧ t.ic = s.ic ∧ Calm n t := by
  unfold portOut takePort
  split
  · exact absurd ‹_› (h.2.2 p).2.2.1
  · exact absurd ‹_› (h.2.2 p).2.2.2
  · exact externalWrite_calm _ (h.emit _)

/-! ## Stacks -/

@[simp] theorem pushZ8_cfg (v : Byte) : (pushZ8 v s).cfg = s.cfg := by simp [pushZ8]
@[simp] theorem pushZ8_m (v : Byte) : (pushZ8 v s).m = s.m := by simp [pushZ8]
@[simp] theorem pushZ8_phase (v : Byte) : (pushZ8 v s).phase = s.phase := by simp [pushZ8]
@[simp] theorem pushZ8_quota (v : Byte) : (pushZ8 v s).quota = s.quota := by simp [pushZ8]
@[simp] theorem pushZ8_inTurn (v : Byte) : (pushZ8 v s).inTurn = s.inTurn := by simp [pushZ8]
@[simp] theorem pushZ8_lines (v : Byte) : (pushZ8 v s).lines = s.lines := by simp [pushZ8]
@[simp] theorem pushZ8_polls (v : Byte) : (pushZ8 v s).polls = s.polls := by simp [pushZ8]

@[simp] theorem pushZ8_z (v : Byte) : (pushZ8 v s).z = { s.z with sp := s.z.sp - 1 } := by simp [pushZ8]

@[simp] theorem pushZ_cfg (v : Word) : (pushZ v s).cfg = s.cfg := by simp [pushZ]
@[simp] theorem pushZ_m (v : Word) : (pushZ v s).m = s.m := by simp [pushZ]
@[simp] theorem pushZ_phase (v : Word) : (pushZ v s).phase = s.phase := by simp [pushZ]
@[simp] theorem pushZ_quota (v : Word) : (pushZ v s).quota = s.quota := by simp [pushZ]
@[simp] theorem pushZ_inTurn (v : Word) : (pushZ v s).inTurn = s.inTurn := by simp [pushZ]
@[simp] theorem pushZ_lines (v : Word) : (pushZ v s).lines = s.lines := by simp [pushZ]
@[simp] theorem pushZ_polls (v : Word) : (pushZ v s).polls = s.polls := by simp [pushZ]

/-- A push moves `SP` down by two and changes no other register. -/
@[simp] theorem pushZ_z (v : Word) : (pushZ v s).z = { s.z with sp := s.z.sp - 1 - 1 } := by simp [pushZ]

@[simp] theorem popZ8_cfg  : ((popZ8 s).2).cfg = s.cfg := by simp [popZ8]
@[simp] theorem popZ8_m  : ((popZ8 s).2).m = s.m := by simp [popZ8]
@[simp] theorem popZ8_mem  : ((popZ8 s).2).mem = s.mem := by simp [popZ8]
@[simp] theorem popZ8_phase  : ((popZ8 s).2).phase = s.phase := by simp [popZ8]
@[simp] theorem popZ8_quota  : ((popZ8 s).2).quota = s.quota := by simp [popZ8]
@[simp] theorem popZ8_inTurn  : ((popZ8 s).2).inTurn = s.inTurn := by simp [popZ8]
@[simp] theorem popZ8_lines  : ((popZ8 s).2).lines = s.lines := by simp [popZ8]
@[simp] theorem popZ8_polls  : ((popZ8 s).2).polls = s.polls := by simp [popZ8]

@[simp] theorem popZ8_z : (popZ8 s).2.z = { s.z with sp := s.z.sp + 1 } := by simp [popZ8]

@[simp] theorem popZ_cfg  : ((popZ s).2).cfg = s.cfg := by simp [popZ]
@[simp] theorem popZ_m  : ((popZ s).2).m = s.m := by simp [popZ]
@[simp] theorem popZ_mem  : ((popZ s).2).mem = s.mem := by simp [popZ]
@[simp] theorem popZ_phase  : ((popZ s).2).phase = s.phase := by simp [popZ]
@[simp] theorem popZ_quota  : ((popZ s).2).quota = s.quota := by simp [popZ]
@[simp] theorem popZ_inTurn  : ((popZ s).2).inTurn = s.inTurn := by simp [popZ]
@[simp] theorem popZ_lines  : ((popZ s).2).lines = s.lines := by simp [popZ]
@[simp] theorem popZ_polls  : ((popZ s).2).polls = s.polls := by simp [popZ]

/-- A pop moves `SP` up by two and changes no other register. -/
@[simp] theorem popZ_z : (popZ s).2.z = { s.z with sp := s.z.sp + 1 + 1 } := by simp [popZ]

@[simp] theorem pushM_cfg (v : Byte) : (pushM v s).cfg = s.cfg := by simp [pushM]
@[simp] theorem pushM_z (v : Byte) : (pushM v s).z = s.z := by simp [pushM]
@[simp] theorem pushM_phase (v : Byte) : (pushM v s).phase = s.phase := by simp [pushM]
@[simp] theorem pushM_quota (v : Byte) : (pushM v s).quota = s.quota := by simp [pushM]
@[simp] theorem pushM_inTurn (v : Byte) : (pushM v s).inTurn = s.inTurn := by simp [pushM]
@[simp] theorem pushM_lines (v : Byte) : (pushM v s).lines = s.lines := by simp [pushM]
@[simp] theorem pushM_polls (v : Byte) : (pushM v s).polls = s.polls := by simp [pushM]

@[simp] theorem pushM_m (v : Byte) : (pushM v s).m = { s.m with s := s.m.s - 1 } := by simp [pushM]

@[simp] theorem pushM16_cfg (v : Word) : (pushM16 v s).cfg = s.cfg := by simp [pushM16]
@[simp] theorem pushM16_z (v : Word) : (pushM16 v s).z = s.z := by simp [pushM16]
@[simp] theorem pushM16_phase (v : Word) : (pushM16 v s).phase = s.phase := by simp [pushM16]
@[simp] theorem pushM16_quota (v : Word) : (pushM16 v s).quota = s.quota := by simp [pushM16]
@[simp] theorem pushM16_inTurn (v : Word) : (pushM16 v s).inTurn = s.inTurn := by simp [pushM16]
@[simp] theorem pushM16_lines (v : Word) : (pushM16 v s).lines = s.lines := by simp [pushM16]
@[simp] theorem pushM16_polls (v : Word) : (pushM16 v s).polls = s.polls := by simp [pushM16]

@[simp] theorem pushM16_m (v : Word) : (pushM16 v s).m = { s.m with s := s.m.s - 1 - 1 } := by simp [pushM16]

@[simp] theorem pullM_cfg  : ((pullM s).2).cfg = s.cfg := by simp [pullM]
@[simp] theorem pullM_z  : ((pullM s).2).z = s.z := by simp [pullM]
@[simp] theorem pullM_mem  : ((pullM s).2).mem = s.mem := by simp [pullM]
@[simp] theorem pullM_phase  : ((pullM s).2).phase = s.phase := by simp [pullM]
@[simp] theorem pullM_quota  : ((pullM s).2).quota = s.quota := by simp [pullM]
@[simp] theorem pullM_inTurn  : ((pullM s).2).inTurn = s.inTurn := by simp [pullM]
@[simp] theorem pullM_lines  : ((pullM s).2).lines = s.lines := by simp [pullM]
@[simp] theorem pullM_polls  : ((pullM s).2).polls = s.polls := by simp [pullM]

@[simp] theorem pullM_m : (pullM s).2.m = { s.m with s := s.m.s + 1 } := by simp [pullM]

@[simp] theorem pullM16_cfg  : ((pullM16 s).2).cfg = s.cfg := by simp [pullM16]
@[simp] theorem pullM16_z  : ((pullM16 s).2).z = s.z := by simp [pullM16]
@[simp] theorem pullM16_mem  : ((pullM16 s).2).mem = s.mem := by simp [pullM16]
@[simp] theorem pullM16_phase  : ((pullM16 s).2).phase = s.phase := by simp [pullM16]
@[simp] theorem pullM16_quota  : ((pullM16 s).2).quota = s.quota := by simp [pullM16]
@[simp] theorem pullM16_inTurn  : ((pullM16 s).2).inTurn = s.inTurn := by simp [pullM16]
@[simp] theorem pullM16_lines  : ((pullM16 s).2).lines = s.lines := by simp [pullM16]
@[simp] theorem pullM16_polls  : ((pullM16 s).2).polls = s.polls := by simp [pullM16]

@[simp] theorem pullM16_m : (pullM16 s).2.m = { s.m with s := s.m.s + 1 + 1 } := by simp [pullM16]

/-! ## Interrupt entry and return -/

@[simp] theorem entryZ_cfg (k : Bool) : (entryZ k s).cfg = s.cfg := by simp [entryZ]
@[simp] theorem entryZ_m (k : Bool) : (entryZ k s).m = s.m := by simp [entryZ]
@[simp] theorem entryZ_phase (k : Bool) : (entryZ k s).phase = s.phase := by simp [entryZ]
@[simp] theorem entryZ_quota (k : Bool) : (entryZ k s).quota = s.quota := by simp [entryZ]
@[simp] theorem entryZ_inTurn (k : Bool) : (entryZ k s).inTurn = s.inTurn := by simp [entryZ]
@[simp] theorem entryZ_lines (k : Bool) : (entryZ k s).lines = s.lines := by simp [entryZ]
@[simp] theorem entryZ_polls (k : Bool) : (entryZ k s).polls = s.polls := by simp [entryZ]

/-- The registers after the shared part of a Z80 entry. -/
@[simp] theorem entryZ_z (k : Bool) : (entryZ k s).z = { entryRegs k s.z with sp := s.z.sp - 1 - 1 } := by simp [entryZ, entryRegs]

@[simp] theorem nmiEntry_cfg  : (nmiEntry s).cfg = s.cfg := by simp [nmiEntry]
@[simp] theorem nmiEntry_m  : (nmiEntry s).m = s.m := by simp [nmiEntry]
@[simp] theorem nmiEntry_phase  : (nmiEntry s).phase = s.phase := by simp [nmiEntry]
@[simp] theorem nmiEntry_quota  : (nmiEntry s).quota = s.quota := by simp [nmiEntry]
@[simp] theorem nmiEntry_inTurn  : (nmiEntry s).inTurn = s.inTurn := by simp [nmiEntry]
@[simp] theorem nmiEntry_lines  : (nmiEntry s).lines = s.lines := by simp [nmiEntry]
@[simp] theorem nmiEntry_polls  : (nmiEntry s).polls = s.polls := by simp [nmiEntry]

@[simp] theorem vectorM_cfg (r : Word) (b : Bool) (vec : Word) : (vectorM r b vec s).cfg = s.cfg := by simp [vectorM]
@[simp] theorem vectorM_z (r : Word) (b : Bool) (vec : Word) : (vectorM r b vec s).z = s.z := by simp [vectorM]
@[simp] theorem vectorM_phase (r : Word) (b : Bool) (vec : Word) : (vectorM r b vec s).phase = s.phase := by simp [vectorM]
@[simp] theorem vectorM_quota (r : Word) (b : Bool) (vec : Word) : (vectorM r b vec s).quota = s.quota := by simp [vectorM]
@[simp] theorem vectorM_inTurn (r : Word) (b : Bool) (vec : Word) : (vectorM r b vec s).inTurn = s.inTurn := by simp [vectorM]
@[simp] theorem vectorM_lines (r : Word) (b : Bool) (vec : Word) : (vectorM r b vec s).lines = s.lines := by simp [vectorM]
@[simp] theorem vectorM_polls (r : Word) (b : Bool) (vec : Word) : (vectorM r b vec s).polls = s.polls := by simp [vectorM]

@[simp] theorem entry6502_cfg (vec : Word) : (entry6502 vec s).cfg = s.cfg := by simp [entry6502]
@[simp] theorem entry6502_z (vec : Word) : (entry6502 vec s).z = s.z := by simp [entry6502]
@[simp] theorem entry6502_phase (vec : Word) : (entry6502 vec s).phase = s.phase := by simp [entry6502]
@[simp] theorem entry6502_quota (vec : Word) : (entry6502 vec s).quota = s.quota := by simp [entry6502]
@[simp] theorem entry6502_inTurn (vec : Word) : (entry6502 vec s).inTurn = s.inTurn := by simp [entry6502]
@[simp] theorem entry6502_lines (vec : Word) : (entry6502 vec s).lines = s.lines := by simp [entry6502]
@[simp] theorem entry6502_polls (vec : Word) : (entry6502 vec s).polls = s.polls := by simp [entry6502]

@[simp] theorem popPC_cfg  : (popPC s).cfg = s.cfg := by simp [popPC]
@[simp] theorem popPC_m  : (popPC s).m = s.m := by simp [popPC]
@[simp] theorem popPC_mem  : (popPC s).mem = s.mem := by simp [popPC]
@[simp] theorem popPC_phase  : (popPC s).phase = s.phase := by simp [popPC]
@[simp] theorem popPC_quota  : (popPC s).quota = s.quota := by simp [popPC]
@[simp] theorem popPC_inTurn  : (popPC s).inTurn = s.inTurn := by simp [popPC]
@[simp] theorem popPC_lines  : (popPC s).lines = s.lines := by simp [popPC]
@[simp] theorem popPC_polls  : (popPC s).polls = s.polls := by simp [popPC]

@[simp] theorem returnZ_cfg  : (returnZ s).cfg = s.cfg := by simp [returnZ]
@[simp] theorem returnZ_m  : (returnZ s).m = s.m := by simp [returnZ]
@[simp] theorem returnZ_mem  : (returnZ s).mem = s.mem := by simp [returnZ]
@[simp] theorem returnZ_phase  : (returnZ s).phase = s.phase := by simp [returnZ]
@[simp] theorem returnZ_quota  : (returnZ s).quota = s.quota := by simp [returnZ]
@[simp] theorem returnZ_inTurn  : (returnZ s).inTurn = s.inTurn := by simp [returnZ]
@[simp] theorem returnZ_lines  : (returnZ s).lines = s.lines := by simp [returnZ]
@[simp] theorem returnZ_polls  : (returnZ s).polls = s.polls := by simp [returnZ]

@[simp] theorem returnM_cfg  : (returnM s).cfg = s.cfg := by simp [returnM]
@[simp] theorem returnM_z  : (returnM s).z = s.z := by simp [returnM]
@[simp] theorem returnM_mem  : (returnM s).mem = s.mem := by simp [returnM]
@[simp] theorem returnM_phase  : (returnM s).phase = s.phase := by simp [returnM]
@[simp] theorem returnM_quota  : (returnM s).quota = s.quota := by simp [returnM]
@[simp] theorem returnM_inTurn  : (returnM s).inTurn = s.inTurn := by simp [returnM]
@[simp] theorem returnM_lines  : (returnM s).lines = s.lines := by simp [returnM]
@[simp] theorem returnM_polls  : (returnM s).polls = s.polls := by simp [returnM]

/-! ## The illegal-opcode policy -/

@[simp] theorem illegalHook_cfg (a : Word) (b : List Byte) : (illegalHook a b s).cfg = s.cfg := by unfold illegalHook; split <;> simp
@[simp] theorem illegalHook_z (a : Word) (b : List Byte) : (illegalHook a b s).z = s.z := by unfold illegalHook; split <;> simp
@[simp] theorem illegalHook_m (a : Word) (b : List Byte) : (illegalHook a b s).m = s.m := by unfold illegalHook; split <;> simp
@[simp] theorem illegalHook_ic (a : Word) (b : List Byte) : (illegalHook a b s).ic = s.ic := by unfold illegalHook; split <;> simp
@[simp] theorem illegalHook_vdp (a : Word) (b : List Byte) : (illegalHook a b s).vdp = s.vdp := by unfold illegalHook; split <;> simp
@[simp] theorem illegalHook_mem (a : Word) (b : List Byte) : (illegalHook a b s).mem = s.mem := by unfold illegalHook; split <;> simp
@[simp] theorem illegalHook_phase (a : Word) (b : List Byte) : (illegalHook a b s).phase = s.phase := by unfold illegalHook; split <;> simp
@[simp] theorem illegalHook_quota (a : Word) (b : List Byte) : (illegalHook a b s).quota = s.quota := by unfold illegalHook; split <;> simp
@[simp] theorem illegalHook_inTurn (a : Word) (b : List Byte) : (illegalHook a b s).inTurn = s.inTurn := by unfold illegalHook; split <;> simp
@[simp] theorem illegalHook_lines (a : Word) (b : List Byte) : (illegalHook a b s).lines = s.lines := by unfold illegalHook; split <;> simp
@[simp] theorem illegalHook_hookIn (a : Word) (b : List Byte) : (illegalHook a b s).hookIn = s.hookIn := by unfold illegalHook; split <;> simp
@[simp] theorem illegalHook_polls (a : Word) (b : List Byte) : (illegalHook a b s).polls = s.polls := by unfold illegalHook; split <;> simp
@[simp] theorem illegalHook_tick (a : Word) (b : List Byte) : (illegalHook a b s).tick = s.tick := by unfold illegalHook; split <;> simp

@[simp] theorem illegalZ_cfg (i : Instr) : (illegalZ i s).cfg = s.cfg := by simp [illegalZ]
@[simp] theorem illegalZ_z (i : Instr) : (illegalZ i s).z = s.z := by simp [illegalZ]
@[simp] theorem illegalZ_m (i : Instr) : (illegalZ i s).m = s.m := by simp [illegalZ]
@[simp] theorem illegalZ_ic (i : Instr) : (illegalZ i s).ic = s.ic := by simp [illegalZ]
@[simp] theorem illegalZ_vdp (i : Instr) : (illegalZ i s).vdp = s.vdp := by simp [illegalZ]
@[simp] theorem illegalZ_mem (i : Instr) : (illegalZ i s).mem = s.mem := by simp [illegalZ]
@[simp] theorem illegalZ_phase (i : Instr) : (illegalZ i s).phase = s.phase := by simp [illegalZ]
@[simp] theorem illegalZ_quota (i : Instr) : (illegalZ i s).quota = s.quota := by simp [illegalZ]
@[simp] theorem illegalZ_inTurn (i : Instr) : (illegalZ i s).inTurn = s.inTurn := by simp [illegalZ]
@[simp] theorem illegalZ_lines (i : Instr) : (illegalZ i s).lines = s.lines := by simp [illegalZ]
@[simp] theorem illegalZ_hookIn (i : Instr) : (illegalZ i s).hookIn = s.hookIn := by simp [illegalZ]
@[simp] theorem illegalZ_polls (i : Instr) : (illegalZ i s).polls = s.polls := by simp [illegalZ]
@[simp] theorem illegalZ_tick (i : Instr) : (illegalZ i s).tick = s.tick := by simp [illegalZ]

/-! ## Forms -/

@[simp] theorem modifyZ_cfg (a : Word) (op : Byte → Byte → Byte × Byte) : (modifyZ a op s).cfg = s.cfg := by simp [modifyZ]
@[simp] theorem modifyZ_m (a : Word) (op : Byte → Byte → Byte × Byte) : (modifyZ a op s).m = s.m := by simp [modifyZ]
@[simp] theorem modifyZ_phase (a : Word) (op : Byte → Byte → Byte × Byte) : (modifyZ a op s).phase = s.phase := by simp [modifyZ]
@[simp] theorem modifyZ_quota (a : Word) (op : Byte → Byte → Byte × Byte) : (modifyZ a op s).quota = s.quota := by simp [modifyZ]
@[simp] theorem modifyZ_inTurn (a : Word) (op : Byte → Byte → Byte × Byte) : (modifyZ a op s).inTurn = s.inTurn := by simp [modifyZ]
@[simp] theorem modifyZ_lines (a : Word) (op : Byte → Byte → Byte × Byte) : (modifyZ a op s).lines = s.lines := by simp [modifyZ]
@[simp] theorem modifyZ_polls (a : Word) (op : Byte → Byte → Byte × Byte) : (modifyZ a op s).polls = s.polls := by simp [modifyZ]

@[simp] theorem zeroPagePointer_cfg (b : Byte) : ((zeroPagePointer b s).2).cfg = s.cfg := by simp [zeroPagePointer]
@[simp] theorem zeroPagePointer_z (b : Byte) : ((zeroPagePointer b s).2).z = s.z := by simp [zeroPagePointer]
@[simp] theorem zeroPagePointer_m (b : Byte) : ((zeroPagePointer b s).2).m = s.m := by simp [zeroPagePointer]
@[simp] theorem zeroPagePointer_mem (b : Byte) : ((zeroPagePointer b s).2).mem = s.mem := by simp [zeroPagePointer]
@[simp] theorem zeroPagePointer_phase (b : Byte) : ((zeroPagePointer b s).2).phase = s.phase := by simp [zeroPagePointer]
@[simp] theorem zeroPagePointer_quota (b : Byte) : ((zeroPagePointer b s).2).quota = s.quota := by simp [zeroPagePointer]
@[simp] theorem zeroPagePointer_inTurn (b : Byte) : ((zeroPagePointer b s).2).inTurn = s.inTurn := by simp [zeroPagePointer]
@[simp] theorem zeroPagePointer_lines (b : Byte) : ((zeroPagePointer b s).2).lines = s.lines := by simp [zeroPagePointer]
@[simp] theorem zeroPagePointer_polls (b : Byte) : ((zeroPagePointer b s).2).polls = s.polls := by simp [zeroPagePointer]

@[simp] theorem addressOf_cfg (mode : AddrMode) : ((addressOf mode s).2).cfg = s.cfg := by cases mode <;> simp [addressOf]
@[simp] theorem addressOf_z (mode : AddrMode) : ((addressOf mode s).2).z = s.z := by cases mode <;> simp [addressOf]
@[simp] theorem addressOf_m (mode : AddrMode) : ((addressOf mode s).2).m = s.m := by cases mode <;> simp [addressOf]
@[simp] theorem addressOf_mem (mode : AddrMode) : ((addressOf mode s).2).mem = s.mem := by cases mode <;> simp [addressOf]
@[simp] theorem addressOf_phase (mode : AddrMode) : ((addressOf mode s).2).phase = s.phase := by cases mode <;> simp [addressOf]
@[simp] theorem addressOf_quota (mode : AddrMode) : ((addressOf mode s).2).quota = s.quota := by cases mode <;> simp [addressOf]
@[simp] theorem addressOf_inTurn (mode : AddrMode) : ((addressOf mode s).2).inTurn = s.inTurn := by cases mode <;> simp [addressOf]
@[simp] theorem addressOf_lines (mode : AddrMode) : ((addressOf mode s).2).lines = s.lines := by cases mode <;> simp [addressOf]
@[simp] theorem addressOf_polls (mode : AddrMode) : ((addressOf mode s).2).polls = s.polls := by cases mode <;> simp [addressOf]

@[simp] theorem readM_cfg (mode : AddrMode) (f : Byte → M6502 → M6502) : (readM mode f s).cfg = s.cfg := by unfold readM; simp only; split <;> simp
@[simp] theorem readM_z (mode : AddrMode) (f : Byte → M6502 → M6502) : (readM mode f s).z = s.z := by unfold readM; simp only; split <;> simp
@[simp] theorem readM_mem (mode : AddrMode) (f : Byte → M6502 → M6502) : (readM mode f s).mem = s.mem := by unfold readM; simp only; split <;> simp
@[simp] theorem readM_phase (mode : AddrMode) (f : Byte → M6502 → M6502) : (readM mode f s).phase = s.phase := by unfold readM; simp only; split <;> simp
@[simp] theorem readM_quota (mode : AddrMode) (f : Byte → M6502 → M6502) : (readM mode f s).quota = s.quota := by unfold readM; simp only; split <;> simp
@[simp] theorem readM_inTurn (mode : AddrMode) (f : Byte → M6502 → M6502) : (readM mode f s).inTurn = s.inTurn := by unfold readM; simp only; split <;> simp
@[simp] theorem readM_lines (mode : AddrMode) (f : Byte → M6502 → M6502) : (readM mode f s).lines = s.lines := by unfold readM; simp only; split <;> simp
@[simp] theorem readM_polls (mode : AddrMode) (f : Byte → M6502 → M6502) : (readM mode f s).polls = s.polls := by unfold readM; simp only; split <;> simp

@[simp] theorem storeM_cfg (mode : AddrMode) (v : M6502 → Byte) : (storeM mode v s).cfg = s.cfg := by simp [storeM]
@[simp] theorem storeM_z (mode : AddrMode) (v : M6502 → Byte) : (storeM mode v s).z = s.z := by simp [storeM]
@[simp] theorem storeM_m (mode : AddrMode) (v : M6502 → Byte) : (storeM mode v s).m = s.m := by simp [storeM]
@[simp] theorem storeM_phase (mode : AddrMode) (v : M6502 → Byte) : (storeM mode v s).phase = s.phase := by simp [storeM]
@[simp] theorem storeM_quota (mode : AddrMode) (v : M6502 → Byte) : (storeM mode v s).quota = s.quota := by simp [storeM]
@[simp] theorem storeM_inTurn (mode : AddrMode) (v : M6502 → Byte) : (storeM mode v s).inTurn = s.inTurn := by simp [storeM]
@[simp] theorem storeM_lines (mode : AddrMode) (v : M6502 → Byte) : (storeM mode v s).lines = s.lines := by simp [storeM]
@[simp] theorem storeM_polls (mode : AddrMode) (v : M6502 → Byte) : (storeM mode v s).polls = s.polls := by simp [storeM]

@[simp] theorem modifyM_cfg (mode : AddrMode) (op : Byte → M6502 → Byte × M6502) : (modifyM mode op s).cfg = s.cfg := by simp [modifyM]
@[simp] theorem modifyM_z (mode : AddrMode) (op : Byte → M6502 → Byte × M6502) : (modifyM mode op s).z = s.z := by simp [modifyM]
@[simp] theorem modifyM_phase (mode : AddrMode) (op : Byte → M6502 → Byte × M6502) : (modifyM mode op s).phase = s.phase := by simp [modifyM]
@[simp] theorem modifyM_quota (mode : AddrMode) (op : Byte → M6502 → Byte × M6502) : (modifyM mode op s).quota = s.quota := by simp [modifyM]
@[simp] theorem modifyM_inTurn (mode : AddrMode) (op : Byte → M6502 → Byte × M6502) : (modifyM mode op s).inTurn = s.inTurn := by simp [modifyM]
@[simp] theorem modifyM_lines (mode : AddrMode) (op : Byte → M6502 → Byte × M6502) : (modifyM mode op s).lines = s.lines := by simp [modifyM]
@[simp] theorem modifyM_polls (mode : AddrMode) (op : Byte → M6502 → Byte × M6502) : (modifyM mode op s).polls = s.polls := by simp [modifyM]

@[simp] theorem branchM_cfg (c : Bool) (b : Byte) : (branchM c b s).cfg = s.cfg := by unfold branchM; split <;> simp
@[simp] theorem branchM_z (c : Bool) (b : Byte) : (branchM c b s).z = s.z := by unfold branchM; split <;> simp
@[simp] theorem branchM_ic (c : Bool) (b : Byte) : (branchM c b s).ic = s.ic := by unfold branchM; split <;> simp
@[simp] theorem branchM_vdp (c : Bool) (b : Byte) : (branchM c b s).vdp = s.vdp := by unfold branchM; split <;> simp
@[simp] theorem branchM_mem (c : Bool) (b : Byte) : (branchM c b s).mem = s.mem := by unfold branchM; split <;> simp
@[simp] theorem branchM_phase (c : Bool) (b : Byte) : (branchM c b s).phase = s.phase := by unfold branchM; split <;> simp
@[simp] theorem branchM_quota (c : Bool) (b : Byte) : (branchM c b s).quota = s.quota := by unfold branchM; split <;> simp
@[simp] theorem branchM_inTurn (c : Bool) (b : Byte) : (branchM c b s).inTurn = s.inTurn := by unfold branchM; split <;> simp
@[simp] theorem branchM_lines (c : Bool) (b : Byte) : (branchM c b s).lines = s.lines := by unfold branchM; split <;> simp
@[simp] theorem branchM_hookIn (c : Bool) (b : Byte) : (branchM c b s).hookIn = s.hookIn := by unfold branchM; split <;> simp
@[simp] theorem branchM_polls (c : Bool) (b : Byte) : (branchM c b s).polls = s.polls := by unfold branchM; split <;> simp
@[simp] theorem branchM_tick (c : Bool) (b : Byte) : (branchM c b s).tick = s.tick := by unfold branchM; split <;> simp
@[simp] theorem branchM_events (c : Bool) (b : Byte) : (branchM c b s).events = s.events := by unfold branchM; split <;> simp

end Sys2Proof.Machine
end

