-- ==== Sys2Proof/Laws/Commute.lean ====
section
/-! SUPPORT. Accesses commute with changes of a CPU record: no hook reads one. With these, a push, a pop or a call is one access after
another on the state as it was. -/
namespace Sys2Proof.Machine

variable (s : State)

theorem readControlPort_onZ (f : Z80 → Z80) :
    readControlPort (s.onZ f) = ((readControlPort s).1, (readControlPort s).2.onZ f) := rfl
theorem readDataPort_onZ (f : Z80 → Z80) : readDataPort (s.onZ f) = ((readDataPort s).1, (readDataPort s).2.onZ f) := rfl
theorem writeDataPort_onZ (f : Z80 → Z80) (b : Byte) : writeDataPort b (s.onZ f) = (writeDataPort b s).onZ f := rfl
theorem readControlPort_onM (f : M6502 → M6502) :
    readControlPort (s.onM f) = ((readControlPort s).1, (readControlPort s).2.onM f) := rfl
theorem readDataPort_onM (f : M6502 → M6502) : readDataPort (s.onM f) = ((readDataPort s).1, (readDataPort s).2.onM f) := rfl
theorem writeDataPort_onM (f : M6502 → M6502) (b : Byte) : writeDataPort b (s.onM f) = (writeDataPort b s).onM f := rfl

theorem writeRegister_onZ (f : Z80 → Z80) (i v : Byte) :
    writeRegister i v (s.onZ f) = ((writeRegister i v s).1, (writeRegister i v s).2.onZ f) := by
  unfold writeRegister
  simp only [Prod.mk.injEq]
  exact ⟨rfl, by split <;> rfl⟩
theorem writeRegister_onM (f : M6502 → M6502) (i v : Byte) :
    writeRegister i v (s.onM f) = ((writeRegister i v s).1, (writeRegister i v s).2.onM f) := by
  unfold writeRegister
  simp only [Prod.mk.injEq]
  exact ⟨rfl, by split <;> rfl⟩

theorem onVdp_onZ (f : Z80 → Z80) (g : Vdp → Vdp) : (s.onZ f).onVdp g = (s.onVdp g).onZ f := rfl
theorem onVdp_onM (f : M6502 → M6502) (g : Vdp → Vdp) : (s.onM f).onVdp g = (s.onVdp g).onM f := rfl

theorem writeControlPort_onZ (f : Z80 → Z80) (b : Byte) :
    writeControlPort b (s.onZ f) = ((writeControlPort b s).1, (writeControlPort b s).2.onZ f) := by
  unfold writeControlPort
  simp only [onVdp_onZ, State.onZ_vdp]
  split
  · rfl
  · split <;> first | rfl | exact writeRegister_onZ _ f _ _
theorem writeControlPort_onM (f : M6502 → M6502) (b : Byte) :
    writeControlPort b (s.onM f) = ((writeControlPort b s).1, (writeControlPort b s).2.onM f) := by
  unfold writeControlPort
  simp only [onVdp_onM, State.onM_vdp]
  split
  · rfl
  · split <;> first | rfl | exact writeRegister_onM _ f _ _

theorem inject_onZ (f : Z80 → Z80) (r : Request) : inject r (s.onZ f) = (inject r s).onZ f := by cases r <;> rfl
theorem inject_onM (f : M6502 → M6502) (r : Request) : inject r (s.onM f) = (inject r s).onM f := by cases r <;> rfl

theorem routeIrq_onZ (f : Z80 → Z80) (p : Bool × State) : routeIrq (p.1, p.2.onZ f) = (routeIrq p).onZ f := by
  unfold routeIrq
  simp only [State.onZ_cfg, inject_onZ]
  split <;> rfl
theorem routeIrq_onM (f : M6502 → M6502) (p : Bool × State) : routeIrq (p.1, p.2.onM f) = (routeIrq p).onM f := by
  unfold routeIrq
  simp only [State.onM_cfg, inject_onM]
  split <;> rfl

theorem emit_onZ (f : Z80 → Z80) (e : Event) : (s.onZ f).emit e = (s.emit e).onZ f := rfl
theorem emit_onM (f : M6502 → M6502) (e : Event) : (s.onM f).emit e = (s.emit e).onM f := rfl

theorem runCall_onZ (f : Z80 → Z80) (c : CoreCall) : runCall c (s.onZ f) = (runCall c s).onZ f := by
  cases c with
  | inject r => exact inject_onZ s f r
  | writeControlPort b =>
    simp only [runCall]
    rw [writeControlPort_onZ]
    exact routeIrq_onZ f _
  | _ => rfl
theorem runCalls_onZ (f : Z80 → Z80) (l : List CoreCall) : runCalls l (s.onZ f) = (runCalls l s).onZ f := by
  induction l generalizing s with
  | nil => rfl
  | cons c l ih =>
    simp only [runCalls]
    rw [runCall_onZ]
    exact ih _
theorem takeReply_onZ (f : Z80 → Z80) : takeReply (s.onZ f) = ((takeReply s).1, (takeReply s).2.onZ f) := by
  unfold takeReply
  simp only [State.onZ_hookIn]
  split <;> rfl
theorem externalRead_onZ (f : Z80 → Z80) (mk : Byte → Event) :
    externalRead mk (s.onZ f) = ((externalRead mk s).1, (externalRead mk s).2.onZ f) := by
  simp only [externalRead, takeReply_onZ, runCalls_onZ]
  rfl
theorem externalWrite_onZ (f : Z80 → Z80) : externalWrite (s.onZ f) = (externalWrite s).onZ f := by
  simp only [externalWrite, takeReply_onZ, runCalls_onZ]

/-- A read does not look at the Z80 record. -/
theorem memRead_onZ (f : Z80 → Z80) (a : Word) : memRead a (s.onZ f) = ((memRead a s).1, (memRead a s).2.onZ f) := by
  unfold memRead
  simp only [State.onZ_cfg]
  split
  · rfl
  · rfl
  · rfl
  · exact externalRead_onZ s f _

/-- A write does not look at the Z80 record. -/
theorem memWrite_onZ (f : Z80 → Z80) (a : Word) (v : Byte) : memWrite a v (s.onZ f) = (memWrite a v s).onZ f := by
  simp only [memWrite, emit_onZ, takeByte, State.onZ_cfg]
  split
  · rfl
  · rw [writeControlPort_onZ]; exact routeIrq_onZ f _
  · rfl
  · exact externalWrite_onZ _ f

theorem runCall_onM (f : M6502 → M6502) (c : CoreCall) : runCall c (s.onM f) = (runCall c s).onM f := by
  cases c with
  | inject r => exact inject_onM s f r
  | writeControlPort b =>
    simp only [runCall]
    rw [writeControlPort_onM]
    exact routeIrq_onM f _
  | _ => rfl
theorem runCalls_onM (f : M6502 → M6502) (l : List CoreCall) : runCalls l (s.onM f) = (runCalls l s).onM f := by
  induction l generalizing s with
  | nil => rfl
  | cons c l ih =>
    simp only [runCalls]
    rw [runCall_onM]
    exact ih _
theorem takeReply_onM (f : M6502 → M6502) : takeReply (s.onM f) = ((takeReply s).1, (takeReply s).2.onM f) := by
  unfold takeReply
  simp only [State.onM_hookIn]
  split <;> rfl
theorem externalRead_onM (f : M6502 → M6502) (mk : Byte → Event) :
    externalRead mk (s.onM f) = ((externalRead mk s).1, (externalRead mk s).2.onM f) := by
  simp only [externalRead, takeReply_onM, runCalls_onM]
  rfl
theorem externalWrite_onM (f : M6502 → M6502) : externalWrite (s.onM f) = (externalWrite s).onM f := by
  simp only [externalWrite, takeReply_onM, runCalls_onM]

/-- A read does not look at the 6502 record. -/
theorem memRead_onM (f : M6502 → M6502) (a : Word) : memRead a (s.onM f) = ((memRead a s).1, (memRead a s).2.onM f) := by
  unfold memRead
  simp only [State.onM_cfg]
  split
  · rfl
  · rfl
  · rfl
  · exact externalRead_onM s f _

/-- A write does not look at the 6502 record. -/
theorem memWrite_onM (f : M6502 → M6502) (a : Word) (v : Byte) : memWrite a v (s.onM f) = (memWrite a v s).onM f := by
  simp only [memWrite, emit_onM, takeByte, State.onM_cfg]
  split
  · rfl
  · rw [writeControlPort_onM]; exact routeIrq_onM f _
  · rfl
  · exact externalWrite_onM _ f

/-- A port write does not look at the Z80 record. -/
theorem portOut_onZ (f : Z80 → Z80) (p : Word) (v : Byte) : portOut p v (s.onZ f) = (portOut p v s).onZ f := by
  simp only [portOut, emit_onZ, takePort, State.onZ_cfg]
  split
  · rw [writeControlPort_onZ]; exact routeIrq_onZ f _
  · rfl
  · exact externalWrite_onZ _ f

/-- A port read does not look at the Z80 record. -/
theorem portIn_onZ (f : Z80 → Z80) (p : Word) : portIn p (s.onZ f) = ((portIn p s).1, (portIn p s).2.onZ f) := by
  unfold portIn
  simp only [State.onZ_cfg]
  split
  · rfl
  · rfl
  · exact externalRead_onZ s f _

theorem onZ_onZ (f g : Z80 → Z80) : (s.onZ f).onZ g = s.onZ fun z => g (f z) := rfl
theorem onM_onM (f g : M6502 → M6502) : (s.onM f).onM g = s.onM fun m => g (f m) := rfl

theorem Word.sub_one_sub_one (w : Word) : w - 1 - 1 = w - 2 := by bv_omega
theorem Word.add_one_add_one (w : Word) : w + 1 + 1 = w + 2 := by bv_omega
theorem Byte.sub_one_sub_one (b : Byte) : b - 1 - 1 = b - 2 := by bv_omega
theorem Byte.add_one_add_one (b : Byte) : b + 1 + 1 = b + 2 := by bv_omega

/-- A push of a word, as two writes on the state before it (R136). -/
theorem pushZ_eq (v : Word) :
    pushZ v s = (memWrite (s.z.sp - 2) (lo8 v) (memWrite (s.z.sp - 1) (hi8 v) s)).onZ fun z => { z with sp := z.sp - 2 } := by
  simp only [pushZ, pushZ8, memWrite_onZ, State.onZ_z, memWrite_z, onZ_onZ, Word.sub_one_sub_one]

/-- A pop of a word, as two reads on the state before it (R136). -/
theorem popZ_eq :
    popZ s = (mk16 (memRead (s.z.sp + 1) (memRead s.z.sp s).2).1 (memRead s.z.sp s).1,
      (memRead (s.z.sp + 1) (memRead s.z.sp s).2).2.onZ fun z => { z with sp := z.sp + 2 }) := by
  simp only [popZ, popZ8, memRead_onZ, State.onZ_z, memRead_z, onZ_onZ, Word.add_one_add_one]

/-- A push of a word on the 6502, as two writes on the state before it (R136). -/
theorem pushM16_eq (v : Word) :
    pushM16 v s = (memWrite (stackAddr (s.m.s - 1)) (lo8 v) (memWrite (stackAddr s.m.s) (hi8 v) s)).onM fun m =>
      { m with s := m.s - 2 } := by
  simp only [pushM16, pushM, memWrite_onM, State.onM_m, memWrite_m, onM_onM, Byte.sub_one_sub_one]

/-- A pull of a byte on the 6502, as one read on the state before it (R136). -/
theorem pullM_eq :
    pullM s = ((memRead (stackAddr (s.m.s + 1)) s).1,
      (memRead (stackAddr (s.m.s + 1)) s).2.onM fun m => { m with s := m.s + 1 }) := by
  simp only [pullM, memRead_onM, State.onM_m]

/-- A pull of a word on the 6502, as two reads on the state before it (R628). -/
theorem pullM16_eq :
    pullM16 s = (mk16 (memRead (stackAddr (s.m.s + 2)) (memRead (stackAddr (s.m.s + 1)) s).2).1
        (memRead (stackAddr (s.m.s + 1)) s).1,
      (memRead (stackAddr (s.m.s + 2)) (memRead (stackAddr (s.m.s + 1)) s).2).2.onM fun m => { m with s := m.s + 2 }) := by
  simp only [pullM16, pullM_eq, memRead_onM, State.onM_m, memRead_m, onM_onM, Byte.add_one_add_one]

end Sys2Proof.Machine
end

