-- ==== Sys2Proof/Laws/Driver.lean ====
section
/-! SUPPORT. What the driver's calls can do, said once: which fields they keep in every case (spec/60_exceptions.md R827,
spec/70_reset_and_hazards.md R900, R912). -/
namespace Sys2Proof.Machine

variable {s : State}

/-- A scanline changes the VDP and the outputs and nothing else (R752). -/
theorem stepScanline_keeps :
    (stepScanline s).2 = { s with vdp := (stepScanline s).2.vdp, events := (stepScanline s).2.events } := by
  unfold stepScanline; simp only; split <;> (try split) <;> rfl

/-! ## Reset (R900) -/

@[simp] theorem resetMachine_cfg : (resetMachine s).cfg = s.cfg := by
  unfold resetMachine; simp only; split <;> simp [State.emit, memRead16]
@[simp] theorem resetMachine_mem : (resetMachine s).mem = s.mem := by
  unfold resetMachine; simp only; split <;> simp [State.emit, memRead16]
@[simp] theorem resetMachine_phase : (resetMachine s).phase = s.phase := by
  unfold resetMachine; simp only; split <;> simp [State.emit, memRead16]
@[simp] theorem resetMachine_lines : (resetMachine s).lines = s.lines := by
  unfold resetMachine; simp only; split <;> simp [State.emit, memRead16]
@[simp] theorem resetMachine_polls : (resetMachine s).polls = s.polls := by
  unfold resetMachine; simp only; split <;> simp [State.emit, memRead16]

/-- `Reset` of a Z80 machine (R901, R903, R904). -/
theorem resetMachine_z80 (h : s.cfg.cpu = .z80) :
    resetMachine s = { s with
      vdp := Vdp.reset s.cfg, ic := Pending.reset, z := Z80.reset, events := .backdrop (Vdp.reset s.cfg).bg :: s.events } := by
  unfold resetMachine; simp only [State.emit]; rw [h]

/-- `Reset` of a 6502 machine: the vector is read last, through the hook (R902, R903, R904). -/
theorem resetMachine_m6502 (h : s.cfg.cpu = .m6502) :
    resetMachine s =
      let r := memRead16 0xFFFC { s with
        vdp := Vdp.reset s.cfg, ic := Pending.reset, events := .backdrop (Vdp.reset s.cfg).bg :: s.events }
      { r.2 with m := M6502.reset r.1 } := by
  unfold resetMachine; simp only [State.emit]; rw [h]

/-! ## The driver's actions (R10) -/

@[simp] theorem runAction_cfg (a : DriverAction) : (runAction a s).cfg = s.cfg := by
  cases a <;> (try rw [runAction, stepScanline_keeps]) <;> simp [runAction, State.emit, restore]
@[simp] theorem runAction_mem (a : DriverAction) : (runAction a s).mem = s.mem := by
  cases a <;> (try rw [runAction, stepScanline_keeps]) <;> simp [runAction, State.emit, restore]
@[simp] theorem runAction_lines (a : DriverAction) : (runAction a s).lines = s.lines := by
  cases a <;> (try rw [runAction, stepScanline_keeps]) <;> simp [runAction, State.emit, restore]
@[simp] theorem runAction_polls (a : DriverAction) : (runAction a s).polls = s.polls := by
  cases a <;> (try rw [runAction, stepScanline_keeps]) <;> simp [runAction, State.emit, restore]

@[simp] theorem runActions_cfg (l : List DriverAction) : (runActions l s).cfg = s.cfg := by
  induction l generalizing s with
  | nil => rfl
  | cons a l ih => rw [runActions, ih, runAction_cfg]
@[simp] theorem runActions_mem (l : List DriverAction) : (runActions l s).mem = s.mem := by
  induction l generalizing s with
  | nil => rfl
  | cons a l ih => rw [runActions, ih, runAction_mem]
@[simp] theorem runActions_lines (l : List DriverAction) : (runActions l s).lines = s.lines := by
  induction l generalizing s with
  | nil => rfl
  | cons a l ih => rw [runActions, ih, runAction_lines]
@[simp] theorem runActions_polls (l : List DriverAction) : (runActions l s).polls = s.polls := by
  induction l generalizing s with
  | nil => rfl
  | cons a l ih => rw [runActions, ih, runAction_polls]

end Sys2Proof.Machine
end

