-- ==== Sys2Proof/Laws/Step.lean ====
section
/-! SUPPORT. What a sample point, a fetch and a step can do, said once (spec/60_exceptions.md R827 to R831, R842 to R844): later proofs
cite these and unfold neither `step` nor `Accept`. -/
namespace Sys2Proof.Machine

variable {s t : State}

/-! ## Sample points -/

/-- The three ways `Accept` of the Z80 goes on (R831). -/
theorem acceptZ_ok (h : acceptZ s = .ok t) : s.ic.quit = false ∧
    ((s.ic.nmi = true ∧ t = nmiEntry { s with ic := { s.ic with nmi := false } }) ∨
      (s.ic.nmi = false ∧ s.z.iff1 = true ∧
        ∃ v, s.ic.int = some v ∧ intEntry v { s with ic := { s.ic with int := none } } = .ok t) ∨
      (s.ic.nmi = false ∧ (s.ic.int = none ∨ s.z.iff1 = false) ∧ t = s)) := by
  unfold acceptZ at h
  split at h
  · cases h
  split at h
  · cases h
    exact ⟨by simp_all, .inl ⟨‹_›, rfl⟩⟩
  split at h
  · split at h
    · exact ⟨by simp_all, .inr (.inl ⟨by simp_all, ‹_›, _, ‹_›, h⟩)⟩
    · cases h
      exact ⟨by simp_all, .inr (.inr ⟨by simp_all, .inr (by simp_all), rfl⟩)⟩
  · cases h
    exact ⟨by simp_all, .inr (.inr ⟨by simp_all, .inl ‹_›, rfl⟩)⟩

/-- The three ways `Accept` of the 6502 goes on (R844). -/
theorem acceptM_ok (h : acceptM s = .ok t) : s.ic.quit = false ∧
    ((s.ic.nmi = true ∧ t = entry6502 0xFFFA { s with ic := { s.ic with nmi := false } }) ∨
      (s.ic.nmi = false ∧ s.m.fi = false ∧ s.ic.int ≠ none ∧ t = entry6502 0xFFFE { s with ic := { s.ic with int := none } }) ∨
      (s.ic.nmi = false ∧ (s.ic.int = none ∨ s.m.fi = true) ∧ t = s)) := by
  unfold acceptM at h
  split at h
  · cases h
  split at h
  · cases h
    exact ⟨by simp_all, .inl ⟨‹_›, rfl⟩⟩
  split at h
  · split at h
    · cases h
      exact ⟨by simp_all, .inr (.inr ⟨by simp_all, .inr ‹_›, rfl⟩)⟩
    · cases h
      exact ⟨by simp_all, .inr (.inl ⟨by simp_all, by simp_all, by simp_all, rfl⟩)⟩
  · cases h
    exact ⟨by simp_all, .inr (.inr ⟨by simp_all, .inl ‹_›, rfl⟩)⟩

/-- A stop takes the stop request and nothing else (R857). -/
theorem accept_stop (h : accept s = .stop t) : s.ic.quit = true ∧ t = { s with ic := { s.ic with quit := false } } := by
  unfold accept at h
  split at h
  · unfold acceptZ at h
    split at h
    · cases h
      exact ⟨‹_›, rfl⟩
    split at h
    · cases h
    split at h
    · split at h
      · unfold intEntry at h
        split at h <;> (try split at h) <;> cases h
      · cases h
    · cases h
  · unfold acceptM at h
    split at h
    · cases h
      exact ⟨‹_›, rfl⟩
    split at h
    · cases h
    split at h
    · split at h <;> cases h
    · cases h

/-- What follows a sample point that does not refuse. -/
theorem atSample_next {a : Accepted} {k : State → State} (h : atSample a k = .next t) :
    (∃ u, a = .ok u ∧ t = k u) ∨ (∃ u, a = .stop u ∧ t = stopExecute u) := by
  cases a with
  | ok u =>
    cases h
    exact .inl ⟨u, rfl, rfl⟩
  | stop u =>
    cases h
    exact .inr ⟨u, rfl, rfl⟩
  | refused => cases h

/-! ## The fetch -/

/-- A fetch writes no register, no configuration, no byte of RAM and nothing of the driver (R132). -/
theorem fetchFrom_keeps (cpu : Cpu) (pc : Word) (n : Nat) (bytes : List Byte) (s : State) :
    let t := (fetchFrom cpu pc n bytes s).2
    t.z = s.z ∧ t.m = s.m ∧ t.cfg = s.cfg ∧ t.mem = s.mem ∧ t.inTurn = s.inTurn ∧ t.phase = s.phase ∧ t.quota = s.quota ∧
      t.lines = s.lines ∧ t.polls = s.polls := by
  induction n generalizing bytes s with
  | zero => simp [fetchFrom]
  | succ n ih =>
    simp only [fetchFrom]
    split
    · simp
    · obtain ⟨a, b, c, d, e, f, g, h, i⟩ := ih (bytes ++ [(memRead (pc + BitVec.ofNat 16 bytes.length) s).1])
        (memRead (pc + BitVec.ofNat 16 bytes.length) s).2
      simp [a, b, c, d, e, f, g, h, i]

/-- The instruction a fetch finds is what the bytes it read decode to. -/
theorem fetchFrom_decodes (cpu : Cpu) (pc : Word) (n : Nat) (bytes : List Byte) (s : State) {i : Instr}
    (h : (fetchFrom cpu pc n bytes s).1 = some i) : ∃ read, decode cpu (bytes ++ read) = .ok i := by
  induction n generalizing bytes s with
  | zero => simp [fetchFrom] at h
  | succ n ih =>
    simp only [fetchFrom] at h
    split at h
    · cases h
      exact ⟨_, ‹_›⟩
    · obtain ⟨read, hr⟩ := ih _ _ h
      exact ⟨_ :: read, by simpa using hr⟩

/-! ## The step -/

/-- What one instruction of the Z80 variant does, with the halt and the end of the grace window (R829). -/
theorem stepZ80_next (h : stepZ80 s = .next t) :
    (s.z.halted = true ∧ t = s.onZ fun z => { z with icount := if 0 < z.icount then 0 else z.icount }) ∨
      (s.z.halted = false ∧ ∃ i s1 u, fetch s = (some i, s1) ∧ exec i (beginZ i s1) = .next u ∧
        ((t = u ∧ (s.z.grace = false ∨ i = .zEi)) ∨ (s.z.grace = true ∧ i ≠ .zEi ∧ graceEnd u = .next t))) := by
  unfold stepZ80 at h
  split at h
  · cases h
    exact .inl ⟨‹_›, rfl⟩
  · refine .inr ⟨by simp_all, ?_⟩
    split at h
    · rename_i i s1 hf
      cases he : exec i (beginZ i s1) with
      | next u =>
        refine ⟨i, s1, u, hf, he, ?_⟩
        simp only [he, finishZ] at h
        have hi : isEi i = true ↔ i = .zEi := by cases i <;> simp [isEi]
        split at h
        · refine .inr ⟨by simp_all, fun hn => ?_, h⟩
          simp_all
        · cases h
          refine .inl ⟨rfl, ?_⟩
          cases hg : s.z.grace <;> simp_all
      | fault f => simp [he, finishZ] at h
      | refused q => simp [he, finishZ] at h
    · cases h

/-- What one instruction of the 6502 variant does (R842). -/
theorem stepM6502_next (h : stepM6502 s = .next t) :
    ∃ i s1, fetch s = (some i, s1) ∧ exec i (beginM i s1) = .next t := by
  unfold stepM6502 at h
  split at h
  · exact ⟨_, _, ‹_›, h⟩
  · cases h

/-! ## The poll -/

@[simp] theorem takePoll_cfg : (takePoll s).2.cfg = s.cfg := by unfold takePoll; split <;> rfl
@[simp] theorem takePoll_z : (takePoll s).2.z = s.z := by unfold takePoll; split <;> rfl
@[simp] theorem takePoll_m : (takePoll s).2.m = s.m := by unfold takePoll; split <;> rfl
@[simp] theorem takePoll_mem : (takePoll s).2.mem = s.mem := by unfold takePoll; split <;> rfl
@[simp] theorem takePoll_phase : (takePoll s).2.phase = s.phase := by unfold takePoll; split <;> rfl
@[simp] theorem takePoll_quota : (takePoll s).2.quota = s.quota := by unfold takePoll; split <;> rfl
@[simp] theorem takePoll_inTurn : (takePoll s).2.inTurn = s.inTurn := by unfold takePoll; split <;> rfl
@[simp] theorem takePoll_lines : (takePoll s).2.lines = s.lines := by unfold takePoll; split <;> rfl
@[simp] theorem takePoll_hookIn : (takePoll s).2.hookIn = s.hookIn := by unfold takePoll; split <;> rfl

/-- A poll changes the latches, the VDP, its script, the counter and the outputs, and nothing else (R843, U12). -/
theorem poll_keeps : poll s = { s with
    ic := (poll s).ic, vdp := (poll s).vdp, polls := (poll s).polls, tick := (poll s).tick, events := (poll s).events } := by
  have h : ∀ a b : State, a.cfg = b.cfg → a.z = b.z → a.m = b.m → a.mem = b.mem → a.phase = b.phase → a.quota = b.quota →
      a.inTurn = b.inTurn → a.lines = b.lines → a.hookIn = b.hookIn →
      a = { b with ic := a.ic, vdp := a.vdp, polls := a.polls, tick := a.tick, events := a.events } := by
    rintro ⟨⟩ ⟨⟩ <;> simp_all
  apply h <;> simp [poll, State.emit]

/-! ## Phases -/

/-- A step between two iterations starts the next one (R827). -/
theorem step_iterStart (h : s.phase = .iterStart) : step s = .next (startIteration s) := by unfold step; rw [h]

/-- A step at the entry of `Execute` (R828, R842). -/
theorem step_execEntry (h : s.phase = .execEntry) : step s = executeEntry s := by unfold step; rw [h]

/-- A step inside `Execute` (R828, R842). -/
theorem step_execLoop (h : s.phase = .execLoop) : step s = executeLoop s := by unfold step; rw [h]

/-- A step of the VDP's half of an iteration (R827). -/
theorem step_scanline (h : s.phase = .scanline) : step s = .next (scanlineHalf s) := by unfold step; rw [h]

/-- A step after a stop (R857). -/
theorem step_stopped (h : s.phase = .stopped) : step s = .next (whileStopped s) := by unfold step; rw [h]

/-- The loop of `Execute` on the Z80: an instruction while budget is left, then the end sample point (R828). -/
theorem executeLoop_z80 (h : s.cfg.cpu = .z80) :
    executeLoop s = if 0 < s.z.icount then stepZ80 s else atSample (acceptZ s) endExecute := by unfold executeLoop; rw [h]

/-- The loop of `Execute` on the 6502: an instruction while budget is left, then the poll and the end sample point (R842). -/
theorem executeLoop_m6502 (h : s.cfg.cpu = .m6502) :
    executeLoop s = if s.m.cycLine < s.quota then stepM6502 s else atSample (acceptM (poll s)) endExecute := by
  unfold executeLoop; rw [h]

/-- The half that `CFG.order` puts first, as a condition (R827). -/
theorem firstHalf_eq (cfg : Config) (b : Bool) :
    firstHalf cfg b = if b = true ∧ ¬cfg.order = .cpuThenVdp then .scanline else .execEntry := by
  cases h : cfg.order <;> cases b <;> simp [firstHalf, h]

/-- What follows `Execute`, as a condition (R827). -/
theorem afterExecute_eq (cfg : Config) (b : Bool) :
    afterExecute cfg b = if b = true ∧ cfg.order = .cpuThenVdp then .scanline else .iterStart := by
  cases h : cfg.order <;> cases b <;> simp [afterExecute, h]

end Sys2Proof.Machine
end

