-- ==== Sys2Proof/Tests/Slice0.lean ====
section
/-! SUPPORT. Tests on fixed values: what well-formedness refuses, words of the spec's encodings and what they decode to, one-step
vectors of spec/95_test_vectors.md, and for each statement with hypotheses a state and operands that meet them. -/
namespace Sys2Proof.Tests
set_option Elab.async false
open Sys2Proof.Machine

/-- A Z80 inside `Execute` on a platform that is all RAM, with every register zero but `SP`, and port reads answered with `inByte`
(spec/95_test_vectors.md, Conventions). -/
def stateZ (inByte : Byte) (bytes : List Byte) (setup : Z80 → Z80) (cells : List Host.Cell) : State :=
  let z := setup { Z80.reset with a := 0, f := 0, pc := 0x0100, icount := 1000 }
  let s := State.powerOn { Config.default with portMap := [], memMap := ramEverywhere }
  { s with
    phase := .execLoop, z := z, hookIn := [⟨[], inByte⟩]
    mem := cells.foldl (fun m c => Memory.write m c.1 c.2) (storeBytes z.pc bytes []) }

/-- The same for the 6502, at `0x8000` with interrupts enabled. -/
def stateM (bytes : List Byte) (setup : M6502 → M6502) (cells : List Host.Cell) : State :=
  let m := setup { M6502.reset 0x8000 with fi := false }
  let s := State.powerOn { Config.default with cpu := .m6502, portMap := [], memMap := ramEverywhere }
  { s with
    phase := .execLoop, quota := 1000, m := m
    mem := cells.foldl (fun mem c => Memory.write mem c.1 c.2) (storeBytes m.pc bytes []) }

/-- One step on the Z80 costs `cost` cycles and ends in a state that meets `post`. -/
def runsZ (inByte : Byte) (bytes : List Byte) (setup : Z80 → Z80) (cells : List Host.Cell) (cost : Int) (post : State → Bool) : Bool :=
  match step (stateZ inByte bytes setup cells) with
  | .next t => decide ((stateZ inByte bytes setup cells).z.icount - t.z.icount = cost) && post t
  | _ => false

/-- One step on the 6502 costs `cost` cycles and ends in a state that meets `post`. -/
def runsM (bytes : List Byte) (setup : M6502 → M6502) (cells : List Host.Cell) (cost : Nat) (post : State → Bool) : Bool :=
  match step (stateM bytes setup cells) with
  | .next t => decide (t.m.cycLine = cost) && post t
  | _ => false

/-- Each byte string decodes to the instruction beside it. -/
def decodesAll (cpu : Cpu) (l : List (List Byte × Instr)) : Bool := l.all fun p => decode cpu p.1 == .ok p.2

/-! ## What well-formedness refuses, and how a table word is read and placed -/

theorem test_wf_refuses_ill_formed_terms :
    [Instr.zNegCopy 0, .zRetnCopy 0, .zRetnCopy 1, .zIllegalEd 0x44, .zLdRXyHalf .ix .h .lo, .zLdRXyHalf .iy .l .hi,
      .zBitBMemXyZ .ix 0 0 6, .zPrefix .ix 0x21, .zPrefix .iy 0xDD, .zPrefix .ix 0xFD, .mIllegal 0xEA].all (fun i => !i.wf) = true := by
  decide +kernel

theorem test_wf_admits_their_neighbours :
    [Instr.zNegCopy 1, .zRetnCopy 2, .zIllegalEd 0x77, .zLdRXyHalf .ix .a .lo, .zBitBMemXyZ .ix 0 0 7, .zPrefix .ix 0x00,
      .mIllegal 0x02].all Instr.wf = true := by decide +kernel

/-- A table word is its bytes, the first in the low eight bits. -/
theorem test_table_words :
    decodeTableWord 8 0x3C = some (.zIncR .a) ∧ decodeTableWord 32 0x7F0136DD = some (.zLdMemXyN .ix 0x01 0x7F) ∧
    decodeTableWord 24 0x0012F0BD = some (.mLdaAbsX 0x12F0) := by decide +kernel

/-- The word placed after reset is what the next step runs. -/
theorem test_placed_word_runs :
    (match step (State.reset.withFetchWord 8 0x3C) with
      | .next t => t.z.a == 0x00 && t.z.pc == 0x0001
      | _ => false) = true := by decide +kernel

/-! ## States and operands that meet the hypotheses of the statements -/

/-- A fetch that finds an instruction, as the statements about steps ask for it. -/
theorem fetched {s : State} {i : Instr} (h : (fetch s).1 = some i) : ∃ s1, fetch s = (some i, s1) := ⟨(fetch s).2, by rw [← h]⟩

/-- A platform that routes three addresses and two ports, and has plain RAM at one address and below `0x8000`. -/
def routed : Config := { Config.default with
  memMap := [⟨0xFFFF, 0xC000, .vdpControl⟩, ⟨0xFFFF, 0xC001, .vdpData⟩, ⟨0xFFFF, 0xC002, .external⟩, ⟨0xFFFF, 0xC003, .ram⟩,
    ⟨0x8000, 0, .ram⟩]
  portMap := [⟨0x00FF, 0x00BF, .vdpControl⟩, ⟨0x00FF, 0x00BE, .vdpData⟩] }

/-- A Z80 state on a platform that is all RAM. -/
def plainZ : State := stateZ 0xFF [0x3C] id []

/-- A 6502 state on a platform that is all RAM. -/
def plainM : State := stateM [0xEA] id []

theorem test_meets_DecodeReadsWhatEncodeWrites :
    (Instr.zRotMemXyR .iy 0x80 .sll .a).wf = true ∧ (Instr.zPrefix .ix 0x00).wf = true ∧ (Instr.mIllegal 0xFF).wf = true := by decide

theorem test_meets_DecodeTakesOnlyItsOwnEncoding :
    decode .z80 [0xDD, 0xCB, 0x00, 0x00, 0x55] = .ok (.zRotMemXyR .ix 0x00 .rlc .b) ∧
    decode .m6502 [0x02] = .ok (.mIllegal 0x02) := by decide +kernel

/-- The instruction lies across the top of the address space. -/
theorem test_meets_FetchFindsTheInstructionAtPc :
    let i := Instr.zLdDdNn .sp 0x1234
    let s := stateZ 0xFF [0x31, 0x34, 0x12] (fun z => { z with pc := 0xFFFF }) []
    i.wf = true ∧ i.cpu = s.cfg.cpu ∧ ∀ k, k < (encode i).length → PlainAt s.cfg (s.pc + BitVec.ofNat 16 k) ∧
      (encode i)[k]? = some (s.ramByte (s.pc + BitVec.ofNat 16 k)) := by
  unfold PlainAt
  decide +kernel

theorem test_meets_StepRunsTheFetchedInstruction_z80 :
    let run := fun (bytes : List Byte) (grace : Bool) => stateZ 0xFF bytes (fun z => { z with grace := grace, icount := 1 }) []
    (∃ s1, fetch (run [0x3C] false) = (some (.zIncR .a), s1)) ∧ (∃ s1, fetch (run [0xFB] true) = (some .zEi, s1)) ∧
    (∃ s1, fetch (run [0x3C] true) = (some (.zIncR .a), s1)) ∧ (run [0x3C] true).phase = .execLoop ∧
    (run [0x3C] true).cfg.cpu = .z80 ∧ 0 < (run [0x3C] true).z.icount ∧ (run [0x3C] true).z.halted = false ∧
    ∀ s, ∃ t, exec (.zIncR .a) s = .next t :=
  ⟨fetched (by decide +kernel), fetched (by decide +kernel), fetched (by decide +kernel), rfl, rfl, by decide, rfl, fun _ => ⟨_, rfl⟩⟩

theorem test_meets_StepRunsTheFetchedInstruction_m6502 :
    (∃ s1, fetch plainM = (some .mNop, s1)) ∧ plainM.phase = .execLoop ∧ plainM.cfg.cpu = .m6502 ∧ plainM.m.cycLine < plainM.quota :=
  ⟨fetched (by decide +kernel), rfl, rfl, by decide⟩

/-- One instruction for each clause on costs. -/
theorem test_meets_StepRunsTheFetchedInstruction_costs :
    (Instr.zOutC0.isUndocumented = true ∧ ({ Config.default with z80Undoc := false } : Config).z80Undoc = false) ∧
    (encode .zNop = [0x00] ∧ encode (.zRlcR .b) = [0xCB, 0x00] ∧ encode .zNeg = [0xED, 0x44] ∧ encode (.zIncXy .ix) = [0xDD, 0x23] ∧
      encode (.zRlcMemXy .iy 0xFF) = [0xFD, 0xCB, 0xFF, 0x06]) ∧
    Config.default.cyc = CycTables.default ∧ Config.default.z80Undoc = true ∧
    (Instr.zNop.wf = true ∧ Instr.zNop.cpu = .z80) ∧ (Instr.mNop.wf = true ∧ Instr.mNop.cpu = .m6502) := by decide +kernel

/-- A maskable request in mode 0 whose vector byte is next to a restart opcode. -/
def unknownVector : State := { plainZ with
  phase := .execEntry, ic := ⟨false, some 0xC6, false⟩, z := { plainZ.z with iff1 := true } }

theorem test_meets_StepStopsOnlyOnAnUnknownVector :
    unknownVector.phase = .execEntry ∧ unknownVector.cfg.cpu = .z80 ∧ step unknownVector = .refused .im0VectorNotRst :=
  ⟨rfl, rfl, rfl⟩

theorem reset_frame : FrameShape (Vdp.reset Config.default).fb := by
  unfold FrameShape
  decide +kernel

theorem reset_vdp : VdpLegal Config.default (Vdp.reset Config.default) :=
  ⟨by unfold VdpLegalBits; decide, ⟨rfl, rfl, rfl, rfl⟩, reset_frame, by decide⟩

/-- A machine whose driver will restore what a fresh machine saves. -/
def scripted : State := { State.reset with lines := [⟨[.restore (save State.reset), .save], 5, true⟩] }

theorem scripted_inputs : InputsLegal scripted := by
  intro line hl act ha b hb
  simp only [scripted, List.mem_singleton] at hl
  subst hl hb
  simp only [List.mem_cons, DriverAction.restore.injEq, List.not_mem_nil, or_false, reduceCtorEq] at ha
  subst ha
  exact ⟨reset_vdp, rfl, rfl⟩

theorem test_meets_StepKeepsMemoriesCanonical :
    InputsLegal scripted ∧ RamCanonical scripted ∧ VramCanonical scripted.vdp ∧ ∃ t, step scripted = .next t :=
  ⟨scripted_inputs, rfl, rfl, _, rfl⟩

theorem test_meets_StepKeepsTheVdpLegalAndTheConfiguration :
    (∃ t, step scripted = .next t) ∧ scripted.cfg.wf = true ∧ InputsLegal scripted ∧ VdpLegal scripted.cfg scripted.vdp :=
  ⟨⟨_, rfl⟩, by decide, scripted_inputs, reset_vdp⟩

/-- A state inside the grace window. -/
def inWindow : State := stateZ 0xFF [0x3C] (fun z => { z with grace := true, ibackup := 46, icount := 1 }) []

theorem test_meets_StepKeepsTheGraceWindow :
    InputsLegal inWindow ∧ GraceLegal inWindow ∧ inWindow.z.grace = true ∧
    (match step inWindow with | .next t => t.z.grace == false | _ => false) = true :=
  ⟨by intro line hl; simp [inWindow, stateZ, State.powerOn] at hl, fun _ => ⟨rfl, rfl, rfl, rfl⟩, rfl, by decide +kernel⟩

/-- Each variant; each region, and a machine with constants of its own. -/
theorem test_meets_ResetGivesTheStatedValues :
    plainZ.cfg.cpu = .z80 ∧ plainM.cfg.cpu = .m6502 ∧ routed.wf = true ∧
    (Config.default.lineOverride = none ∧ Config.default.region = .ntsc) ∧ ({ routed with region := .pal } : Config).wf = true ∧
    ({ routed with lineOverride := some ⟨262, 40, 232⟩ } : Config).wf = true := by decide

/-- A 6502 whose vector is outside the core starts at what the platform answers. -/
theorem test_reset_reads_the_vector_through_the_hook :
    let s := State.powerOn { Config.default with cpu := .m6502, memMap := [] }
    (resetMachine { s with hookIn := [⟨[], 0x34⟩, ⟨[.inject .nmi], 0x12⟩] }).m.pc = 0x1234 ∧
    (resetMachine { s with hookIn := [⟨[], 0x34⟩, ⟨[.inject .nmi], 0x12⟩] }).ic = ⟨true, none, false⟩ := by decide +kernel

theorem test_meets_InstructionsStoreOnlyWhereTheirRulesSay :
    (∃ t, exec (.zLdMemNnHl 0xFFFF) plainZ = .next t) ∧ (0x0001 : Word) ∉ storedAt (.zLdMemNnHl 0xFFFF) plainZ :=
  ⟨⟨_, rfl⟩, by decide⟩

theorem test_meets_InstructionsKeepTheFlagsTheyDoNotName :
    (∃ t, exec (.zIncR .a) plainZ = .next t) ∧ ∃ t, exec .mInx plainM = .next t := ⟨⟨_, rfl⟩, _, rfl⟩

theorem test_meets_SpecialRegistersChangeOnlyByTheirInstructions :
    (∃ t, exec (.zIncR .a) plainZ = .next t) ∧
    [Instr.zExAfAf, .zExx, .zLdIA, .zLdRA, .zDi, .zEi, .zRetn, .zReti, .zIm0, .zHalt].all (fun j => decide (Instr.zIncR .a ≠ j)) = true ∧
    ∀ y, Instr.zIncR .a ≠ .zRetnCopy y := ⟨⟨_, rfl⟩, by decide, by intro _ h; cases h⟩

theorem test_meets_InstructionsReachTheVdpOnlyThroughItsPorts :
    let s := { plainZ with ic := ⟨true, some 0x10, true⟩, hookIn := List.replicate 8 ⟨[], 0x00⟩ }
    (∃ t, exec (.zOutNA 0xBF) s = .next t) ∧
    (∀ a, routeOf s.cfg.memMap a ≠ some .vdpControl ∧ routeOf s.cfg.memMap a ≠ some .vdpData ∧
      routeOf s.cfg.portMap a ≠ some .vdpControl ∧ routeOf s.cfg.portMap a ≠ some .vdpData) ∧
    8 ≤ s.hookIn.length ∧ (∀ r ∈ s.hookIn, r.calls = []) ∧
    (∀ a, PlainAt s.cfg a) ∧ (∃ t, exec .zLdir s = .next t) ∧ Instr.zLdir.usesPorts = false ∧
    s.ic.nmi = true ∧ s.ic.int.isSome = true ∧ s.ic.quit = true :=
  ⟨⟨_, rfl⟩, fun a => by simp [plainZ, stateZ, State.powerOn, routeOf, ramEverywhere], by decide, by decide,
    fun a => by simp [PlainAt, plainZ, stateZ, State.powerOn, routeOf, ramEverywhere], ⟨_, rfl⟩, rfl, rfl, rfl, rfl⟩

theorem test_meets_RegisterMovesGiveTheNamedRegisters :
    plainZ.cfg.z80Undoc = true ∧ Reg8.a ≠ .b ∧ RegSS.sp ≠ .bc ∧ Half.hi ≠ .lo := by decide

theorem test_meets_HooksRouteEachAccess :
    let s := State.powerOn routed
    PlainAt s.cfg 0xC003 ∧ PlainAt s.cfg 0x7FFF ∧ routeOf s.cfg.memMap 0x8000 = none ∧
    routeOf s.cfg.memMap 0xC000 = some .vdpControl ∧ routeOf s.cfg.memMap 0xC001 = some .vdpData ∧
    routeOf s.cfg.memMap 0xC002 = some .external ∧ s.hookIn = [] ∧
    ({ s with hookIn := [⟨[.inject .quit], 7⟩] } : State).hookIn = ⟨[.inject .quit], 7⟩ :: [] ∧
    routeOf s.cfg.portMap 0x12BF = some .vdpControl ∧ routeOf s.cfg.portMap 0x12BE = some .vdpData ∧
    routeOf s.cfg.portMap 0x12BD = none := by
  unfold PlainAt
  decide +kernel

/-- With `SP` at 1 the two bytes lie on both sides of the end of memory. -/
theorem test_meets_PushPopAndExchangeKeepTheStackDiscipline :
    let s := stateZ 0xFF [0xF5] (fun z => { z with sp := 0x0001 }) []
    PlainAt s.cfg (s.z.sp - 1) ∧ PlainAt s.cfg (s.z.sp - 2) := ⟨rfl, rfl⟩

theorem test_meets_the_accumulator_operations :
    (Source8.half .iy .hi).available plainZ.cfg ∧ (Source8.memXy .ix 0x80).available plainZ.cfg ∧
    (Source8.imm 0xFF).available plainZ.cfg := ⟨rfl, trivial, trivial⟩

theorem test_meets_IncrementAndDecrementWorkInPlace :
    plainZ.cfg.z80Undoc = true ∧ (∀ xy l, Place8.memHl ≠ .half xy l) ∧ incInstr (.half .ix .lo) = some (.zIncXyHalf .ix .lo) ∧
    decInstr .memHl = some .zDecMemHl := ⟨rfl, (by intro _ _ h; cases h), rfl, rfl⟩

theorem test_meets_DaaAdjustsToPackedDecimal :
    let s := stateZ 0xFF [0x27] (fun z => { z with a := 0x99 }) []
    (99 < 100 ∧ s.z.a = BitVec.ofNat 8 (16 * (99 / 10) + 99 % 10)) ∧ plainZ.z.a = BitVec.ofNat 8 (16 * (0 / 10) + 0 % 10) := by
  decide

theorem test_meets_ComplementNegateAndCarryOperations :
    plainZ.cfg.z80Undoc = true ∧ (Instr.zNeg = .zNeg ∧ ∃ y, Instr.zNegCopy 7 = .zNegCopy y) := ⟨rfl, rfl, 7, rfl⟩

theorem test_meets_AccumulatorAndDigitRotates :
    (Rot.rlc, Instr.zRlca) ∈ [(Rot.rlc, Instr.zRlca), (.rrc, .zRrca), (.rl, .zRla), (.rr, .zRra)] ∧
    (Rot.rr, Instr.zRra) ∈ [(Rot.rlc, Instr.zRlca), (.rrc, .zRrca), (.rl, .zRla), (.rr, .zRra)] := by decide

theorem test_meets_RotatesAndShiftsWorkInPlace :
    rotInstr .sll (.copy .iy 0x7F .a) = some (.zRotMemXyR .iy 0x7F .sll .a) ∧
    (rotUndocumented .sll (.copy .iy 0x7F .a) → plainZ.cfg.z80Undoc = true) ∧
    rotInstr .srl (.reg .a) = some (.zSrlR .a) ∧ ¬rotUndocumented .srl (.reg .a) :=
  ⟨rfl, fun _ => rfl, rfl, by rintro (h | ⟨_, _, _, h⟩) <;> cases h⟩

theorem test_meets_BitTestsSetsAndResets :
    plainZ.cfg.z80Undoc = true ∧ (∃ z, Instr.zBitBMemXyZ .ix 0 7 5 = .zBitBMemXyZ .ix 0 7 z) ∧
    (∀ xy d r, Place8.memHl ≠ .copy xy d r) ∧ setInstr 7 .memHl = some (.zSetBMemHl 7) ∧
    resInstr 0 (.copy .ix 0x80 .a) = some (.zResBMemXyR .ix 0x80 0 .a) :=
  ⟨rfl, ⟨5, rfl⟩, (by intro _ _ _ h; cases h), rfl, rfl⟩

theorem test_meets_CallsRestartsAndReturns : plainZ.cfg.z80Undoc = true := rfl

theorem test_meets_ControlInstructionsWriteTheInterruptState :
    plainZ.z.grace = false ∧ inWindow.z.grace = true ∧ plainZ.cfg.z80Undoc = true := ⟨rfl, rfl, rfl⟩

theorem test_meets_BlockTransferAndSearch :
    ((1 : Word), Instr.zLdi, Instr.zCpi) ∈ [((1 : Word), Instr.zLdi, Instr.zCpi), (-1, .zLdd, .zCpd)] ∧
    ((-1 : Word), Instr.zLdd, Instr.zCpd) ∈ [((1 : Word), Instr.zLdi, Instr.zCpi), (-1, .zLdd, .zCpd)] ∧
    (Instr.zLdd, Instr.zLddr) ∈ [(Instr.zLdi, Instr.zLdir), (.zLdd, .zLddr)] ∧
    (Instr.zCpi, Instr.zCpir) ∈ [(Instr.zCpi, Instr.zCpir), (.zCpd, .zCpdr)] := by decide

theorem test_meets_BlockInputAndOutput :
    ((-1 : Word), (-1 : Byte), Instr.zInd, Instr.zOutd) ∈
      [((1 : Word), (1 : Byte), Instr.zIni, Instr.zOuti), (-1, -1, .zInd, .zOutd)] ∧
    (Instr.zOuti, Instr.zOtir) ∈ [(Instr.zIni, Instr.zInir), (.zInd, .zIndr), (.zOuti, .zOtir), (.zOutd, .zOtdr)] := by decide

theorem test_meets_PortInstructionsUseTheWholePortAddress : plainZ.cfg.z80Undoc = true := rfl

theorem test_meets_IllegalOpcodesOnlyCallTheHook :
    ({ plainZ with cfg := { plainZ.cfg with z80Undoc := false } } : State).cfg.z80Undoc = false ∧
    Instr.zOutC0.isUndocumented = true ∧ (Instr.zRotMemXyR .ix 0 .rlc .b).isUndocumented = true := ⟨rfl, rfl, rfl⟩

theorem test_meets_statements_over_plain_memory_of_the_6502 : ∀ a, PlainAt plainM.cfg a := fun a => by
  simp [PlainAt, plainM, stateM, State.powerOn, routeOf, ramEverywhere]

theorem test_meets_AccumulatorReadsInEveryMode :
    accInstr .lda (.imm 0xFF) = some (.mLdaImm 0xFF) ∧ accInstr .and (.mem (.zpx 0)) = some (.mAndZpX 0) ∧
    accInstr .eor (.mem (.abx 0xFFFF)) = some (.mEorAbsX 0xFFFF) ∧ accInstr .ora (.mem (.izx 0xFF)) = some (.mOraIzx 0xFF) ∧
    accInstr .cmp (.mem (.izy 0xFF)) = some (.mCmpIzy 0xFF) := ⟨rfl, rfl, rfl, rfl, rfl⟩

theorem test_meets_AdcAndSbcInBothModes :
    let s := stateM [0x69, 0x99] (fun m => { m with a := 0x99, fd := true }) []
    accInstr .adc (.imm 0x99) = some (.mAdcImm 0x99) ∧ accInstr .sbc (.mem (.aby 0)) = some (.mSbcAbsY 0) ∧
    plainM.m.fd = false ∧ s.m.fd = true ∧ s.m.a = BitVec.ofNat 8 (16 * (99 / 10) + 99 % 10) ∧ 99 < 100 := by decide

theorem test_meets_IndexRegisterAndTransferInstructions :
    indexInstr .ldx (.mem (.zpy 0xFF)) = some (.mLdxZpY 0xFF) ∧ indexInstr .ldy (.imm 0) = some (.mLdyImm 0) ∧
    indexInstr .cpx (.mem (.zp 0)) = some (.mCpxZp 0) ∧ indexInstr .cpy (.mem (.abs 0xFFFF)) = some (.mCpyAbs 0xFFFF) ∧
    indexInstr .bit (.mem (.zp 0xFF)) = some (.mBitZp 0xFF) := ⟨rfl, rfl, rfl, rfl, rfl⟩

theorem test_meets_StoresAndReadModifyWritesOfThe6502 :
    storeInstr .x (.zpy 0xFF) = some (.mStxZpY 0xFF) ∧ modifyInstr .ror (.abx 0xFFFF) = some (.mRorAbsX 0xFFFF) ∧
    modifyAInstr .rol = some .mRolA := ⟨rfl, rfl, rfl⟩

theorem test_meets_BranchesSubroutinesAndFlagInstructions :
    Branch.bcc.taken plainM.m ∧ ¬Branch.bcs.taken plainM.m := ⟨rfl, by simp [Branch.taken, plainM, stateM, M6502.reset]⟩

/-- One state for each clause: a stop with every other request, both non-maskable requests, the maskable request of each variant
enabled and disabled, and none. -/
theorem test_meets_SamplePointsTakeOneRequestInOrder :
    let z := fun (ic : Pending) (iff1 : Bool) => { plainZ with ic := ic, z := { plainZ.z with iff1 := iff1 } }
    let m := fun (ic : Pending) (fi : Bool) => { plainM with ic := ic, m := { plainM.m with fi := fi } }
    (z ⟨true, some 0xFF, true⟩ true).ic.quit = true ∧
    ((z ⟨true, some 0xFF, false⟩ true).ic.nmi = true ∧ (m ⟨true, some 0xFF, false⟩ false).ic.nmi = true ∧
      (z ⟨true, some 0xFF, false⟩ true).ic.quit = false) ∧
    ((z ⟨false, some 0xFF, false⟩ true).z.iff1 = true ∧ (z ⟨false, some 0, false⟩ false).z.iff1 = false ∧
      (m ⟨false, some 0, false⟩ false).m.fi = false ∧ (m ⟨false, some 0, false⟩ true).m.fi = true ∧
      (z ⟨false, some 0xFF, false⟩ true).cfg.cpu = .z80 ∧ (m ⟨false, some 0, false⟩ false).cfg.cpu = .m6502) ∧
    (z ⟨false, none, false⟩ true).ic = ⟨false, none, false⟩ ∧
    ({ plainZ.cfg with vdpIrqClass := .nmi } : Config).vdpIrqClass = .nmi ∧
    ({ plainZ.cfg with vdpIrqClass := .int } : Config).vdpIrqClass = .int := by decide

theorem test_meets_Z80EntriesSaveThePcAndVector :
    plainZ.z.im = .im0 ∧ (0xC7 : Byte) &&& 0xC7 = 0xC7 ∧ (0xFF : Byte) &&& 0xC7 = 0xC7 ∧ (0xC6 : Byte) &&& 0xC7 ≠ 0xC7 ∧
    ({ plainZ.z with im := .im1 } : Z80).im = .im1 ∧ ({ plainZ.z with im := .im2 } : Z80).im = .im2 := by decide

/-- `EI` and then `INC A`, with nothing latched, with a stop latched, and with a vector that is refused. -/
def afterEi (ic : Pending) : State :=
  { stateZ 0xFF [0xFB, 0x3C] (fun z => { z with icount := 1 }) [] with ic := ic }

/-- What the end of the window's sample point answers: 0 for going on, 1 for a stop, 2 for a refusal. -/
def answer (ic : Pending) : Option Nat :=
  match step (afterEi ic) with
  | .next s2 =>
    match fetch s2 with
    | (some i, t) =>
      match exec i (beginZ i t) with
      | .next u =>
        if i = .zIncR .a then
          match accept (closeWindow u) with
          | .ok _ => some 0
          | .stop _ => some 1
          | .refused => some 2
        else none
      | _ => none
    | _ => none
  | _ => none

theorem test_meets_GraceWindowLastsOneInstruction :
    let s := afterEi ⟨false, none, false⟩
    (s.phase = .execLoop ∧ s.cfg.cpu = .z80 ∧ 0 < s.z.icount ∧ s.z.halted = false ∧ s.z.grace = false) ∧
    (∃ s1, fetch s = (some .zEi, s1)) ∧ s.cfg.sampleAtGraceEnd = true ∧
    answer ⟨false, none, false⟩ = some 0 ∧ answer ⟨false, none, true⟩ = some 1 ∧ answer ⟨false, some 0xC6, false⟩ = some 2 :=
  ⟨⟨rfl, rfl, by decide, rfl, rfl⟩, fetched (by decide +kernel), rfl, by decide +kernel, by decide +kernel, by decide +kernel⟩

/-- A scripted turn, out of turn; no script; each entry and end sample point going on and stopping; budget left and spent. -/
theorem test_meets_ExecuteAndTheDriverIteration :
    let entry := fun (s : State) => { s with phase := .execEntry }
    let spent := { plainZ with z := { plainZ.z with icount := 0 } }
    let full := { plainM with m := { plainM.m with cycLine := 1000 } }
    let stop := fun (s : State) => { s with ic := ⟨false, none, true⟩ }
    let from0 := fun (s : State) => s.onM fun m => { m with cycLine := 0 }
    let polled := fun (r : PollReply) (u : State) =>
      inject r.answer { runCalls r.calls u with events := .polled r.answer :: (runCalls r.calls u).events }
    ((State.reset.phase = .iterStart ∧ State.reset.lines = []) ∧
      { State.reset with lines := [⟨[.stepScanline, .call (.inject .quit)], 5, false⟩] }.lines =
        ⟨[.stepScanline, .call (.inject .quit)], 5, false⟩ :: []) ∧
    (stopExecute State.reset).phase = .stopped ∧ ({ State.reset with phase := .scanline } : State).phase = .scanline ∧
    ((entry plainZ).phase = .execEntry ∧ (entry plainZ).cfg.cpu = .z80 ∧ (∃ u, accept (entry plainZ) = .ok u) ∧
      ∃ u, accept (stop (entry plainZ)) = .stop u) ∧
    ((entry plainM).cfg.cpu = .m6502 ∧ (∃ u, accept (from0 (entry plainM)) = .ok u) ∧
      ∃ u, accept (from0 (stop (entry plainM))) = .stop u) ∧
    (({ plainZ with z := { plainZ.z with halted := true, icount := 1 } } : State).z.halted = true ∧ (0 : Int) < 1) ∧
    (plainZ.phase = .execLoop ∧ plainZ.z.halted = false ∧ 0 < plainZ.z.icount ∧ plainZ.z.grace = false) ∧
    plainM.m.cycLine < plainM.quota ∧
    (spent.phase = .execLoop ∧ spent.z.icount ≤ 0 ∧ (∃ u, accept spent = .ok u) ∧ ∃ u, accept (stop spent) = .stop u) ∧
    (full.phase = .execLoop ∧ full.quota ≤ full.m.cycLine ∧ full.polls = [] ∧
      ({ full with polls := [⟨[], .nmi⟩] } : State).polls = ⟨[], .nmi⟩ :: [] ∧
      (∃ u, accept (polled ⟨[], .nmi⟩ full) = .ok u) ∧ ∃ u, accept (polled ⟨[], .quit⟩ full) = .stop u) :=
  ⟨⟨⟨rfl, rfl⟩, rfl⟩, rfl, rfl, ⟨rfl, rfl, ⟨_, rfl⟩, _, rfl⟩, ⟨rfl, ⟨_, rfl⟩, _, rfl⟩, ⟨rfl, by decide⟩,
    ⟨rfl, rfl, by decide, rfl⟩, by decide, ⟨rfl, by decide, ⟨_, rfl⟩, _, rfl⟩, ⟨rfl, by decide, rfl, rfl, ⟨_, rfl⟩, _, rfl⟩⟩

theorem test_meets_RegisterWritesStoreLegalBitsAndRefresh :
    VdpCoherent Config.default (Vdp.reset Config.default) ∧ (0xFF : Byte).extractLsb' 0 3 = (7 : BitVec 3) ∧
    (0x08 : Byte).extractLsb' 0 3 = (0 : BitVec 3) := ⟨⟨rfl, rfl, rfl, rfl⟩, by decide, by decide⟩

theorem test_meets_ControlPortTakesTwoByteCommands :
    (Vdp.reset Config.default).flipflop = .expectLowOrData ∧
    ({ Vdp.reset Config.default with flipflop := .expectHigh } : Vdp).flipflop = .expectHigh ∧
    (0x3F : Byte).toNat < 64 ∧ 64 ≤ (0x40 : Byte).toNat ∧ (0x7F : Byte).toNat < 128 ∧ 128 ≤ (0x80 : Byte).toNat := by decide

theorem test_meets_VideoMemoryReadsBackWhatWasWritten :
    State.reset.vdp.flipflop = .expectLowOrData ∧ (0x3F : Byte).toNat < 64 := by decide

/-- Each clause at its bounds: under the constants of NTSC, and where a machine's own constants put the boundary before the window, so
that line 50 is the boundary and no line is active. -/
theorem test_meets_ScanlineStepsRenderOrReachTheBoundary :
    let cfg := Config.default
    let odd := { cfg with lineOverride := some ⟨262, 100, 50⟩ }
    let active := fun (c : Config) (l : Nat) => c.startLine ≤ l ∧ l < c.endLine
    (active cfg 43 ∧ active cfg 234) ∧ 235 = cfg.endLine ∧ (¬active cfg 42 ∧ 42 ≠ cfg.endLine) ∧ (¬active cfg 236 ∧ 236 ≠ cfg.endLine) ∧
    50 = odd.endLine ∧ (¬active odd 49 ∧ 49 ≠ odd.endLine) ∧ (¬active odd 100 ∧ 100 ≠ odd.endLine) := by decide

/-- Beside the shape: a disabled display, text mode, and a shown line of the first graphics mode where sprite 0 lies over its four
last pixels of row 4 and none over the first column. -/
theorem test_meets_RenderingWritesExactlyOneRow :
    let v := Vdp.reset Config.default
    let w := { v with regs := { v.regs with r1 := 0x40 }, vram := [(3, 0x0F), (4, 0xD0)] }
    let shows := fun (x i : Nat) =>
      (scanLine Config.default 4 w).1.getLsbD i && decide (w.spriteColour i ≠ 0) && spriteLit w i 4 x
    FrameShape v.fb ∧ 191 < 192 ∧ 255 < 256 ∧ v.regs.display = false ∧ v.mode ≠ .text ∧
    ({ w with mode := .text } : Vdp).regs.display = true ∧ w.mode ≠ .text ∧ w.fb = v.fb ∧
    (shows 4 0 = true ∧ ∀ j, j < 0 → shows 4 j = false) ∧ ∀ i, i < 32 → shows 0 i = false :=
  ⟨reset_frame, by decide, by decide, rfl, by decide, rfl, by decide, rfl, by decide +kernel, by decide +kernel⟩

theorem test_meets_BackgroundPixelsOfTheFourModes :
    let v := fun (mode : ScreenMode) => { Vdp.reset Config.default with mode := mode }
    (v .text).mode = .text ∧ (v .graphics1).mode = .graphics1 ∧ (v .graphics2).mode = .graphics2 ∧ (v .multicolor).mode = .multicolor ∧
    191 < 192 ∧ (39 < 40 ∧ 5 < 6) ∧ 31 < 32 ∧ 7 < 8 := by decide

/-- On blank video memory every sprite covers row 1, so entry 4 is the fifth; none covers row 100. -/
theorem test_meets_SpriteScanFindsTheVisibleSprites :
    let v := Vdp.reset Config.default
    v.vstat.getLsbD 6 = false ∧ ({ v with vstat := 0x40 } : Vdp).vstat.getLsbD 6 = true ∧
    ((List.range 5).all fun i => decide (v.spriteY i ≠ 208) && spriteCovers v.regs (v.spriteY i) 1) = true ∧
    ((List.range 32).all fun i => !spriteCovers v.regs (v.spriteY i) 100) = true := by decide +kernel

/-- Sprite 0 with the colour 15 and the same byte as row 3 of its pattern. -/
theorem test_meets_LowestSpriteShowsOnTop :
    let v := { Vdp.reset Config.default with vram := [(3, 0x0F)] }
    let shows := fun (x i : Nat) => (1#32).getLsbD i && decide (v.spriteColour i ≠ 0) && spriteLit v i 4 x
    (List.replicate 256 (0 : Pixel)).length = 256 ∧ (shows 4 0 = true ∧ ∀ j, j < 0 → shows 4 j = false) ∧
    ∀ i, i < 32 → shows 255 i = false := by decide +kernel

/-! ## Words of the spec and what they decode to: every row of spec/opcode_table.json, every value of its small fields -/

theorem test_decode_z80_1 : decodesAll .z80 [
  ([0x00], .zNop),
  ([0x08], .zExAfAf),
  ([0x10, 0x7F], .zDjnz 0x7F),
  ([0x18, 0xFE], .zJr 0xFE),
  ([0x20, 0x99], .zJrCc .nz 0x99),
  ([0x28, 0x01], .zJrCc .z 0x01),
  ([0x30, 0x80], .zJrCc .nc 0x80),
  ([0x38, 0x7F], .zJrCc .c 0x7F),
  ([0x01, 0xFF, 0x7F], .zLdDdNn .bc 0x7FFF),
  ([0x11, 0x00, 0xC0], .zLdDdNn .de 0xC000),
  ([0x21, 0xF0, 0x12], .zLdDdNn .hl 0x12F0),
  ([0x31, 0x01, 0x80], .zLdDdNn .sp 0x8001),
  ([0x09], .zAddHlSs .bc),
  ([0x19], .zAddHlSs .de),
  ([0x29], .zAddHlSs .hl),
  ([0x39], .zAddHlSs .sp),
  ([0x02], .zLdMemBcA),
  ([0x12], .zLdMemDeA),
  ([0x22, 0x01, 0x80], .zLdMemNnHl 0x8001),
  ([0x32, 0x00, 0xFF], .zLdMemNnA 0xFF00),
  ([0x0A], .zLdAMemBc),
  ([0x1A], .zLdAMemDe),
  ([0x2A, 0xEF, 0xBE], .zLdHlMemNn 0xBEEF),
  ([0x3A, 0xFF, 0x7F], .zLdAMemNn 0x7FFF),
  ([0x03], .zIncSs .bc),
  ([0x13], .zIncSs .de),
  ([0x23], .zIncSs .hl),
  ([0x33], .zIncSs .sp)] = true := by decide +kernel

theorem test_decode_z80_2 : decodesAll .z80 [
  ([0x0B], .zDecSs .bc),
  ([0x1B], .zDecSs .de),
  ([0x2B], .zDecSs .hl),
  ([0x3B], .zDecSs .sp),
  ([0x04], .zIncR .b),
  ([0x0C], .zIncR .c),
  ([0x14], .zIncR .d),
  ([0x1C], .zIncR .e),
  ([0x24], .zIncR .h),
  ([0x2C], .zIncR .l),
  ([0x3C], .zIncR .a),
  ([0x34], .zIncMemHl),
  ([0x05], .zDecR .b),
  ([0x0D], .zDecR .c),
  ([0x15], .zDecR .d),
  ([0x1D], .zDecR .e),
  ([0x25], .zDecR .h),
  ([0x2D], .zDecR .l),
  ([0x3D], .zDecR .a),
  ([0x35], .zDecMemHl),
  ([0x06, 0x01], .zLdRN .b 0x01),
  ([0x0E, 0x80], .zLdRN .c 0x80),
  ([0x16, 0x7F], .zLdRN .d 0x7F),
  ([0x1E, 0xFE], .zLdRN .e 0xFE),
  ([0x26, 0x35], .zLdRN .h 0x35),
  ([0x2E, 0xC3], .zLdRN .l 0xC3),
  ([0x3E, 0x5A], .zLdRN .a 0x5A),
  ([0x36, 0x5A], .zLdMemHlN 0x5A)] = true := by decide +kernel

theorem test_decode_z80_3 : decodesAll .z80 [
  ([0x07], .zRlca),
  ([0x0F], .zRrca),
  ([0x17], .zRla),
  ([0x1F], .zRra),
  ([0x27], .zDaa),
  ([0x2F], .zCpl),
  ([0x37], .zScf),
  ([0x3F], .zCcf),
  ([0x43], .zLdRR .b .e),
  ([0x4C], .zLdRR .c .h),
  ([0x55], .zLdRR .d .l),
  ([0x5F], .zLdRR .e .a),
  ([0x60], .zLdRR .h .b),
  ([0x69], .zLdRR .l .c),
  ([0x7A], .zLdRR .a .d),
  ([0x46], .zLdRMemHl .b),
  ([0x4E], .zLdRMemHl .c),
  ([0x56], .zLdRMemHl .d),
  ([0x5E], .zLdRMemHl .e),
  ([0x66], .zLdRMemHl .h),
  ([0x6E], .zLdRMemHl .l),
  ([0x7E], .zLdRMemHl .a),
  ([0x70], .zLdMemHlR .b),
  ([0x71], .zLdMemHlR .c),
  ([0x72], .zLdMemHlR .d),
  ([0x73], .zLdMemHlR .e),
  ([0x74], .zLdMemHlR .h),
  ([0x75], .zLdMemHlR .l)] = true := by decide +kernel

theorem test_decode_z80_4 : decodesAll .z80 [
  ([0x77], .zLdMemHlR .a),
  ([0x76], .zHalt),
  ([0x80], .zAddAR .b),
  ([0x81], .zAddAR .c),
  ([0x82], .zAddAR .d),
  ([0x83], .zAddAR .e),
  ([0x84], .zAddAR .h),
  ([0x85], .zAddAR .l),
  ([0x87], .zAddAR .a),
  ([0x86], .zAddAMemHl),
  ([0xC6, 0xC3], .zAddAN 0xC3),
  ([0x88], .zAdcAR .b),
  ([0x89], .zAdcAR .c),
  ([0x8A], .zAdcAR .d),
  ([0x8B], .zAdcAR .e),
  ([0x8C], .zAdcAR .h),
  ([0x8D], .zAdcAR .l),
  ([0x8F], .zAdcAR .a),
  ([0x8E], .zAdcAMemHl),
  ([0xCE, 0x01], .zAdcAN 0x01),
  ([0x90], .zSubR .b),
  ([0x91], .zSubR .c),
  ([0x92], .zSubR .d),
  ([0x93], .zSubR .e),
  ([0x94], .zSubR .h),
  ([0x95], .zSubR .l),
  ([0x97], .zSubR .a),
  ([0x96], .zSubMemHl)] = true := by decide +kernel

theorem test_decode_z80_5 : decodesAll .z80 [
  ([0xD6, 0xFE], .zSubN 0xFE),
  ([0x98], .zSbcAR .b),
  ([0x99], .zSbcAR .c),
  ([0x9A], .zSbcAR .d),
  ([0x9B], .zSbcAR .e),
  ([0x9C], .zSbcAR .h),
  ([0x9D], .zSbcAR .l),
  ([0x9F], .zSbcAR .a),
  ([0x9E], .zSbcAMemHl),
  ([0xDE, 0x5A], .zSbcAN 0x5A),
  ([0xA0], .zAndR .b),
  ([0xA1], .zAndR .c),
  ([0xA2], .zAndR .d),
  ([0xA3], .zAndR .e),
  ([0xA4], .zAndR .h),
  ([0xA5], .zAndR .l),
  ([0xA7], .zAndR .a),
  ([0xA6], .zAndMemHl),
  ([0xE6, 0x80], .zAndN 0x80),
  ([0xA8], .zXorR .b),
  ([0xA9], .zXorR .c),
  ([0xAA], .zXorR .d),
  ([0xAB], .zXorR .e),
  ([0xAC], .zXorR .h),
  ([0xAD], .zXorR .l),
  ([0xAF], .zXorR .a),
  ([0xAE], .zXorMemHl),
  ([0xEE, 0x35], .zXorN 0x35)] = true := by decide +kernel

theorem test_decode_z80_6 : decodesAll .z80 [
  ([0xB0], .zOrR .b),
  ([0xB1], .zOrR .c),
  ([0xB2], .zOrR .d),
  ([0xB3], .zOrR .e),
  ([0xB4], .zOrR .h),
  ([0xB5], .zOrR .l),
  ([0xB7], .zOrR .a),
  ([0xB6], .zOrMemHl),
  ([0xF6, 0x99], .zOrN 0x99),
  ([0xB8], .zCpR .b),
  ([0xB9], .zCpR .c),
  ([0xBA], .zCpR .d),
  ([0xBB], .zCpR .e),
  ([0xBC], .zCpR .h),
  ([0xBD], .zCpR .l),
  ([0xBF], .zCpR .a),
  ([0xBE], .zCpMemHl),
  ([0xFE, 0x7F], .zCpN 0x7F),
  ([0xC0], .zRetCc .nz),
  ([0xC8], .zRetCc .z),
  ([0xD0], .zRetCc .nc),
  ([0xD8], .zRetCc .c),
  ([0xE0], .zRetCc .po),
  ([0xE8], .zRetCc .pe),
  ([0xF0], .zRetCc .p),
  ([0xF8], .zRetCc .m),
  ([0xC1], .zPopQq .bc),
  ([0xD1], .zPopQq .de)] = true := by decide +kernel

theorem test_decode_z80_7 : decodesAll .z80 [
  ([0xE1], .zPopQq .hl),
  ([0xF1], .zPopQq .af),
  ([0xC9], .zRet),
  ([0xD9], .zExx),
  ([0xE9], .zJpHl),
  ([0xF9], .zLdSpHl),
  ([0xC2, 0x00, 0xFF], .zJpCcNn .nz 0xFF00),
  ([0xCA, 0xFF, 0x00], .zJpCcNn .z 0x00FF),
  ([0xD2, 0x21, 0x43], .zJpCcNn .nc 0x4321),
  ([0xDA, 0xEF, 0xBE], .zJpCcNn .c 0xBEEF),
  ([0xE2, 0xFF, 0x7F], .zJpCcNn .po 0x7FFF),
  ([0xEA, 0x00, 0xC0], .zJpCcNn .pe 0xC000),
  ([0xF2, 0xF0, 0x12], .zJpCcNn .p 0x12F0),
  ([0xFA, 0x01, 0x80], .zJpCcNn .m 0x8001),
  ([0xC3, 0x00, 0xFF], .zJpNn 0xFF00),
  ([0xD3, 0xFE], .zOutNA 0xFE),
  ([0xDB, 0x35], .zInAN 0x35),
  ([0xE3], .zExMemSpHl),
  ([0xEB], .zExDeHl),
  ([0xF3], .zDi),
  ([0xFB], .zEi),
  ([0xC4, 0x00, 0xFF], .zCallCcNn .nz 0xFF00),
  ([0xCC, 0xFF, 0x00], .zCallCcNn .z 0x00FF),
  ([0xD4, 0x21, 0x43], .zCallCcNn .nc 0x4321),
  ([0xDC, 0xEF, 0xBE], .zCallCcNn .c 0xBEEF),
  ([0xE4, 0xFF, 0x7F], .zCallCcNn .po 0x7FFF),
  ([0xEC, 0x00, 0xC0], .zCallCcNn .pe 0xC000),
  ([0xF4, 0xF0, 0x12], .zCallCcNn .p 0x12F0)] = true := by decide +kernel

theorem test_decode_z80_8 : decodesAll .z80 [
  ([0xFC, 0x01, 0x80], .zCallCcNn .m 0x8001),
  ([0xC5], .zPushQq .bc),
  ([0xD5], .zPushQq .de),
  ([0xE5], .zPushQq .hl),
  ([0xF5], .zPushQq .af),
  ([0xCD, 0xFF, 0x00], .zCallNn 0x00FF),
  ([0xC7], .zRst 0),
  ([0xCF], .zRst 1),
  ([0xD7], .zRst 2),
  ([0xDF], .zRst 3),
  ([0xE7], .zRst 4),
  ([0xEF], .zRst 5),
  ([0xF7], .zRst 6),
  ([0xFF], .zRst 7),
  ([0xCB, 0x00], .zRlcR .b),
  ([0xCB, 0x01], .zRlcR .c),
  ([0xCB, 0x02], .zRlcR .d),
  ([0xCB, 0x03], .zRlcR .e),
  ([0xCB, 0x04], .zRlcR .h),
  ([0xCB, 0x05], .zRlcR .l),
  ([0xCB, 0x07], .zRlcR .a),
  ([0xCB, 0x06], .zRlcMemHl),
  ([0xCB, 0x08], .zRrcR .b),
  ([0xCB, 0x09], .zRrcR .c),
  ([0xCB, 0x0A], .zRrcR .d),
  ([0xCB, 0x0B], .zRrcR .e),
  ([0xCB, 0x0C], .zRrcR .h),
  ([0xCB, 0x0D], .zRrcR .l)] = true := by decide +kernel

theorem test_decode_z80_9 : decodesAll .z80 [
  ([0xCB, 0x0F], .zRrcR .a),
  ([0xCB, 0x0E], .zRrcMemHl),
  ([0xCB, 0x10], .zRlR .b),
  ([0xCB, 0x11], .zRlR .c),
  ([0xCB, 0x12], .zRlR .d),
  ([0xCB, 0x13], .zRlR .e),
  ([0xCB, 0x14], .zRlR .h),
  ([0xCB, 0x15], .zRlR .l),
  ([0xCB, 0x17], .zRlR .a),
  ([0xCB, 0x16], .zRlMemHl),
  ([0xCB, 0x18], .zRrR .b),
  ([0xCB, 0x19], .zRrR .c),
  ([0xCB, 0x1A], .zRrR .d),
  ([0xCB, 0x1B], .zRrR .e),
  ([0xCB, 0x1C], .zRrR .h),
  ([0xCB, 0x1D], .zRrR .l),
  ([0xCB, 0x1F], .zRrR .a),
  ([0xCB, 0x1E], .zRrMemHl),
  ([0xCB, 0x20], .zSlaR .b),
  ([0xCB, 0x21], .zSlaR .c),
  ([0xCB, 0x22], .zSlaR .d),
  ([0xCB, 0x23], .zSlaR .e),
  ([0xCB, 0x24], .zSlaR .h),
  ([0xCB, 0x25], .zSlaR .l),
  ([0xCB, 0x27], .zSlaR .a),
  ([0xCB, 0x26], .zSlaMemHl),
  ([0xCB, 0x28], .zSraR .b),
  ([0xCB, 0x29], .zSraR .c)] = true := by decide +kernel

theorem test_decode_z80_10 : decodesAll .z80 [
  ([0xCB, 0x2A], .zSraR .d),
  ([0xCB, 0x2B], .zSraR .e),
  ([0xCB, 0x2C], .zSraR .h),
  ([0xCB, 0x2D], .zSraR .l),
  ([0xCB, 0x2F], .zSraR .a),
  ([0xCB, 0x2E], .zSraMemHl),
  ([0xCB, 0x30], .zSllR .b),
  ([0xCB, 0x31], .zSllR .c),
  ([0xCB, 0x32], .zSllR .d),
  ([0xCB, 0x33], .zSllR .e),
  ([0xCB, 0x34], .zSllR .h),
  ([0xCB, 0x35], .zSllR .l),
  ([0xCB, 0x37], .zSllR .a),
  ([0xCB, 0x36], .zSllMemHl),
  ([0xCB, 0x38], .zSrlR .b),
  ([0xCB, 0x39], .zSrlR .c),
  ([0xCB, 0x3A], .zSrlR .d),
  ([0xCB, 0x3B], .zSrlR .e),
  ([0xCB, 0x3C], .zSrlR .h),
  ([0xCB, 0x3D], .zSrlR .l),
  ([0xCB, 0x3F], .zSrlR .a),
  ([0xCB, 0x3E], .zSrlMemHl),
  ([0xCB, 0x43], .zBitBR 0 .e),
  ([0xCB, 0x4C], .zBitBR 1 .h),
  ([0xCB, 0x55], .zBitBR 2 .l),
  ([0xCB, 0x5F], .zBitBR 3 .a),
  ([0xCB, 0x60], .zBitBR 4 .b),
  ([0xCB, 0x69], .zBitBR 5 .c)] = true := by decide +kernel

theorem test_decode_z80_11 : decodesAll .z80 [
  ([0xCB, 0x72], .zBitBR 6 .d),
  ([0xCB, 0x7B], .zBitBR 7 .e),
  ([0xCB, 0x46], .zBitBMemHl 0),
  ([0xCB, 0x4E], .zBitBMemHl 1),
  ([0xCB, 0x56], .zBitBMemHl 2),
  ([0xCB, 0x5E], .zBitBMemHl 3),
  ([0xCB, 0x66], .zBitBMemHl 4),
  ([0xCB, 0x6E], .zBitBMemHl 5),
  ([0xCB, 0x76], .zBitBMemHl 6),
  ([0xCB, 0x7E], .zBitBMemHl 7),
  ([0xCB, 0x83], .zResBR 0 .e),
  ([0xCB, 0x8C], .zResBR 1 .h),
  ([0xCB, 0x95], .zResBR 2 .l),
  ([0xCB, 0x9F], .zResBR 3 .a),
  ([0xCB, 0xA0], .zResBR 4 .b),
  ([0xCB, 0xA9], .zResBR 5 .c),
  ([0xCB, 0xB2], .zResBR 6 .d),
  ([0xCB, 0xBB], .zResBR 7 .e),
  ([0xCB, 0x86], .zResBMemHl 0),
  ([0xCB, 0x8E], .zResBMemHl 1),
  ([0xCB, 0x96], .zResBMemHl 2),
  ([0xCB, 0x9E], .zResBMemHl 3),
  ([0xCB, 0xA6], .zResBMemHl 4),
  ([0xCB, 0xAE], .zResBMemHl 5),
  ([0xCB, 0xB6], .zResBMemHl 6),
  ([0xCB, 0xBE], .zResBMemHl 7),
  ([0xCB, 0xC3], .zSetBR 0 .e),
  ([0xCB, 0xCC], .zSetBR 1 .h)] = true := by decide +kernel

theorem test_decode_z80_12 : decodesAll .z80 [
  ([0xCB, 0xD5], .zSetBR 2 .l),
  ([0xCB, 0xDF], .zSetBR 3 .a),
  ([0xCB, 0xE0], .zSetBR 4 .b),
  ([0xCB, 0xE9], .zSetBR 5 .c),
  ([0xCB, 0xF2], .zSetBR 6 .d),
  ([0xCB, 0xFB], .zSetBR 7 .e),
  ([0xCB, 0xC6], .zSetBMemHl 0),
  ([0xCB, 0xCE], .zSetBMemHl 1),
  ([0xCB, 0xD6], .zSetBMemHl 2),
  ([0xCB, 0xDE], .zSetBMemHl 3),
  ([0xCB, 0xE6], .zSetBMemHl 4),
  ([0xCB, 0xEE], .zSetBMemHl 5),
  ([0xCB, 0xF6], .zSetBMemHl 6),
  ([0xCB, 0xFE], .zSetBMemHl 7),
  ([0xED, 0x40], .zInRC .b),
  ([0xED, 0x48], .zInRC .c),
  ([0xED, 0x50], .zInRC .d),
  ([0xED, 0x58], .zInRC .e),
  ([0xED, 0x60], .zInRC .h),
  ([0xED, 0x68], .zInRC .l),
  ([0xED, 0x78], .zInRC .a),
  ([0xED, 0x70], .zInFC),
  ([0xED, 0x41], .zOutCR .b),
  ([0xED, 0x49], .zOutCR .c),
  ([0xED, 0x51], .zOutCR .d),
  ([0xED, 0x59], .zOutCR .e),
  ([0xED, 0x61], .zOutCR .h),
  ([0xED, 0x69], .zOutCR .l)] = true := by decide +kernel

theorem test_decode_z80_13 : decodesAll .z80 [
  ([0xED, 0x79], .zOutCR .a),
  ([0xED, 0x71], .zOutC0),
  ([0xED, 0x42], .zSbcHlSs .bc),
  ([0xED, 0x52], .zSbcHlSs .de),
  ([0xED, 0x62], .zSbcHlSs .hl),
  ([0xED, 0x72], .zSbcHlSs .sp),
  ([0xED, 0x4A], .zAdcHlSs .bc),
  ([0xED, 0x5A], .zAdcHlSs .de),
  ([0xED, 0x6A], .zAdcHlSs .hl),
  ([0xED, 0x7A], .zAdcHlSs .sp),
  ([0xED, 0x43, 0x00, 0xFF], .zLdMemNnDd .bc 0xFF00),
  ([0xED, 0x53, 0xFF, 0x00], .zLdMemNnDd .de 0x00FF),
  ([0xED, 0x63, 0x21, 0x43], .zLdMemNnDd .hl 0x4321),
  ([0xED, 0x73, 0xEF, 0xBE], .zLdMemNnDd .sp 0xBEEF),
  ([0xED, 0x4B, 0xFF, 0x00], .zLdDdMemNn .bc 0x00FF),
  ([0xED, 0x5B, 0x21, 0x43], .zLdDdMemNn .de 0x4321),
  ([0xED, 0x6B, 0xEF, 0xBE], .zLdDdMemNn .hl 0xBEEF),
  ([0xED, 0x7B, 0xFF, 0x7F], .zLdDdMemNn .sp 0x7FFF),
  ([0xED, 0x44], .zNeg),
  ([0xED, 0x4C], .zNegCopy 1),
  ([0xED, 0x54], .zNegCopy 2),
  ([0xED, 0x5C], .zNegCopy 3),
  ([0xED, 0x64], .zNegCopy 4),
  ([0xED, 0x6C], .zNegCopy 5),
  ([0xED, 0x74], .zNegCopy 6),
  ([0xED, 0x7C], .zNegCopy 7),
  ([0xED, 0x45], .zRetn),
  ([0xED, 0x4D], .zReti)] = true := by decide +kernel

theorem test_decode_z80_14 : decodesAll .z80 [
  ([0xED, 0x55], .zRetnCopy 2),
  ([0xED, 0x5D], .zRetnCopy 3),
  ([0xED, 0x65], .zRetnCopy 4),
  ([0xED, 0x6D], .zRetnCopy 5),
  ([0xED, 0x75], .zRetnCopy 6),
  ([0xED, 0x7D], .zRetnCopy 7),
  ([0xED, 0x46], .zIm0),
  ([0xED, 0x56], .zIm1),
  ([0xED, 0x5E], .zIm2),
  ([0xED, 0x4E], .zIm0Copy4E),
  ([0xED, 0x66], .zIm0Copy66),
  ([0xED, 0x6E], .zIm0Copy6E),
  ([0xED, 0x76], .zIm1Copy),
  ([0xED, 0x7E], .zIm2Copy),
  ([0xED, 0x47], .zLdIA),
  ([0xED, 0x4F], .zLdRA),
  ([0xED, 0x57], .zLdAI),
  ([0xED, 0x5F], .zLdAR),
  ([0xED, 0x67], .zRrd),
  ([0xED, 0x6F], .zRld),
  ([0xED, 0xA0], .zLdi),
  ([0xED, 0xA1], .zCpi),
  ([0xED, 0xA2], .zIni),
  ([0xED, 0xA3], .zOuti),
  ([0xED, 0xA8], .zLdd),
  ([0xED, 0xA9], .zCpd),
  ([0xED, 0xAA], .zInd),
  ([0xED, 0xAB], .zOutd)] = true := by decide +kernel

theorem test_decode_z80_15 : decodesAll .z80 [
  ([0xED, 0xB0], .zLdir),
  ([0xED, 0xB1], .zCpir),
  ([0xED, 0xB2], .zInir),
  ([0xED, 0xB3], .zOtir),
  ([0xED, 0xB8], .zLddr),
  ([0xED, 0xB9], .zCpdr),
  ([0xED, 0xBA], .zIndr),
  ([0xED, 0xBB], .zOtdr),
  ([0xED, 0x17], .zIllegalEd 0x17),
  ([0xED, 0x90], .zIllegalEd 0x90),
  ([0xDD, 0x39], .zAddXyPp .ix .sp),
  ([0xFD, 0x09], .zAddXyPp .iy .bc),
  ([0xDD, 0x19], .zAddXyPp .ix .de),
  ([0xFD, 0x29], .zAddXyPp .iy .xy),
  ([0xDD, 0x21, 0x01, 0x80], .zLdXyNn .ix 0x8001),
  ([0xFD, 0x21, 0x00, 0xFF], .zLdXyNn .iy 0xFF00),
  ([0xDD, 0x22, 0x00, 0xFF], .zLdMemNnXy .ix 0xFF00),
  ([0xFD, 0x22, 0xFF, 0x00], .zLdMemNnXy .iy 0x00FF),
  ([0xDD, 0x23], .zIncXy .ix),
  ([0xFD, 0x23], .zIncXy .iy),
  ([0xDD, 0x2C], .zIncXyHalf .ix .lo),
  ([0xFD, 0x24], .zIncXyHalf .iy .hi),
  ([0xDD, 0x2D], .zDecXyHalf .ix .lo),
  ([0xFD, 0x25], .zDecXyHalf .iy .hi),
  ([0xDD, 0x2E, 0xFE], .zLdXyHalfN .ix .lo 0xFE),
  ([0xFD, 0x26, 0x35], .zLdXyHalfN .iy .hi 0x35),
  ([0xDD, 0x2A, 0x00, 0xC0], .zLdXyMemNn .ix 0xC000),
  ([0xFD, 0x2A, 0xF0, 0x12], .zLdXyMemNn .iy 0x12F0)] = true := by decide +kernel

theorem test_decode_z80_16 : decodesAll .z80 [
  ([0xDD, 0x2B], .zDecXy .ix),
  ([0xFD, 0x2B], .zDecXy .iy),
  ([0xDD, 0x34, 0xFE], .zIncMemXy .ix 0xFE),
  ([0xFD, 0x34, 0x35], .zIncMemXy .iy 0x35),
  ([0xDD, 0x35, 0x35], .zDecMemXy .ix 0x35),
  ([0xFD, 0x35, 0xC3], .zDecMemXy .iy 0xC3),
  ([0xDD, 0x36, 0xC3, 0x01], .zLdMemXyN .ix 0xC3 0x01),
  ([0xFD, 0x36, 0x5A, 0x80], .zLdMemXyN .iy 0x5A 0x80),
  ([0xDD, 0x5E, 0x80], .zLdRMemXy .ix .e 0x80),
  ([0xFD, 0x66, 0x7F], .zLdRMemXy .iy .h 0x7F),
  ([0xDD, 0x6E, 0xFE], .zLdRMemXy .ix .l 0xFE),
  ([0xFD, 0x7E, 0x35], .zLdRMemXy .iy .a 0x35),
  ([0xDD, 0x46, 0xC3], .zLdRMemXy .ix .b 0xC3),
  ([0xFD, 0x4E, 0x5A], .zLdRMemXy .iy .c 0x5A),
  ([0xDD, 0x56, 0x99], .zLdRMemXy .ix .d 0x99),
  ([0xDD, 0x73, 0x7F], .zLdMemXyR .ix .e 0x7F),
  ([0xFD, 0x74, 0xFE], .zLdMemXyR .iy .h 0xFE),
  ([0xDD, 0x75, 0x35], .zLdMemXyR .ix .l 0x35),
  ([0xFD, 0x77, 0xC3], .zLdMemXyR .iy .a 0xC3),
  ([0xDD, 0x70, 0x5A], .zLdMemXyR .ix .b 0x5A),
  ([0xFD, 0x71, 0x99], .zLdMemXyR .iy .c 0x99),
  ([0xDD, 0x72, 0x01], .zLdMemXyR .ix .d 0x01),
  ([0xDD, 0x6F], .zLdXyHalfR .ix .lo .a),
  ([0xFD, 0x60], .zLdXyHalfR .iy .hi .b),
  ([0xDD, 0x69], .zLdXyHalfR .ix .lo .c),
  ([0xFD, 0x62], .zLdXyHalfR .iy .hi .d),
  ([0xDD, 0x6B], .zLdXyHalfR .ix .lo .e),
  ([0xFD, 0x64], .zLdXyHalfR .iy .hi .xyh)] = true := by decide +kernel

theorem test_decode_z80_17 : decodesAll .z80 [
  ([0xDD, 0x6D], .zLdXyHalfR .ix .lo .xyl),
  ([0xDD, 0x5C], .zLdRXyHalf .ix .e .hi),
  ([0xFD, 0x7D], .zLdRXyHalf .iy .a .lo),
  ([0xDD, 0x44], .zLdRXyHalf .ix .b .hi),
  ([0xFD, 0x4D], .zLdRXyHalf .iy .c .lo),
  ([0xDD, 0x54], .zLdRXyHalf .ix .d .hi),
  ([0xDD, 0x86, 0x7F], .zAddAMemXy .ix 0x7F),
  ([0xFD, 0x86, 0xFE], .zAddAMemXy .iy 0xFE),
  ([0xDD, 0x85], .zAddAXyHalf .ix .lo),
  ([0xFD, 0x84], .zAddAXyHalf .iy .hi),
  ([0xDD, 0x8E, 0x35], .zAdcAMemXy .ix 0x35),
  ([0xFD, 0x8E, 0xC3], .zAdcAMemXy .iy 0xC3),
  ([0xDD, 0x8D], .zAdcAXyHalf .ix .lo),
  ([0xFD, 0x8C], .zAdcAXyHalf .iy .hi),
  ([0xDD, 0x96, 0x5A], .zSubMemXy .ix 0x5A),
  ([0xFD, 0x96, 0x99], .zSubMemXy .iy 0x99),
  ([0xDD, 0x95], .zSubXyHalf .ix .lo),
  ([0xFD, 0x94], .zSubXyHalf .iy .hi),
  ([0xDD, 0x9E, 0x01], .zSbcAMemXy .ix 0x01),
  ([0xFD, 0x9E, 0x80], .zSbcAMemXy .iy 0x80),
  ([0xDD, 0x9D], .zSbcAXyHalf .ix .lo),
  ([0xFD, 0x9C], .zSbcAXyHalf .iy .hi),
  ([0xDD, 0xA6, 0x7F], .zAndMemXy .ix 0x7F),
  ([0xFD, 0xA6, 0xFE], .zAndMemXy .iy 0xFE),
  ([0xDD, 0xA5], .zAndXyHalf .ix .lo),
  ([0xFD, 0xA4], .zAndXyHalf .iy .hi),
  ([0xDD, 0xAE, 0x35], .zXorMemXy .ix 0x35),
  ([0xFD, 0xAE, 0xC3], .zXorMemXy .iy 0xC3)] = true := by decide +kernel

theorem test_decode_z80_18 : decodesAll .z80 [
  ([0xDD, 0xAD], .zXorXyHalf .ix .lo),
  ([0xFD, 0xAC], .zXorXyHalf .iy .hi),
  ([0xDD, 0xB6, 0x5A], .zOrMemXy .ix 0x5A),
  ([0xFD, 0xB6, 0x99], .zOrMemXy .iy 0x99),
  ([0xDD, 0xB5], .zOrXyHalf .ix .lo),
  ([0xFD, 0xB4], .zOrXyHalf .iy .hi),
  ([0xDD, 0xBE, 0x01], .zCpMemXy .ix 0x01),
  ([0xFD, 0xBE, 0x80], .zCpMemXy .iy 0x80),
  ([0xDD, 0xBD], .zCpXyHalf .ix .lo),
  ([0xFD, 0xBC], .zCpXyHalf .iy .hi),
  ([0xDD, 0xE1], .zPopXy .ix),
  ([0xFD, 0xE1], .zPopXy .iy),
  ([0xDD, 0xE3], .zExMemSpXy .ix),
  ([0xFD, 0xE3], .zExMemSpXy .iy),
  ([0xDD, 0xE5], .zPushXy .ix),
  ([0xFD, 0xE5], .zPushXy .iy),
  ([0xDD, 0xE9], .zJpXy .ix),
  ([0xFD, 0xE9], .zJpXy .iy),
  ([0xDD, 0xF9], .zLdSpXy .ix),
  ([0xFD, 0xF9], .zLdSpXy .iy),
  ([0xDD, 0xCB, 0x99, 0x06], .zRlcMemXy .ix 0x99),
  ([0xFD, 0xCB, 0x01, 0x06], .zRlcMemXy .iy 0x01),
  ([0xDD, 0xCB, 0x01, 0x0E], .zRrcMemXy .ix 0x01),
  ([0xFD, 0xCB, 0x80, 0x0E], .zRrcMemXy .iy 0x80),
  ([0xDD, 0xCB, 0x80, 0x16], .zRlMemXy .ix 0x80),
  ([0xFD, 0xCB, 0x7F, 0x16], .zRlMemXy .iy 0x7F),
  ([0xDD, 0xCB, 0x7F, 0x1E], .zRrMemXy .ix 0x7F),
  ([0xFD, 0xCB, 0xFE, 0x1E], .zRrMemXy .iy 0xFE)] = true := by decide +kernel

theorem test_decode_z80_19 : decodesAll .z80 [
  ([0xDD, 0xCB, 0xFE, 0x26], .zSlaMemXy .ix 0xFE),
  ([0xFD, 0xCB, 0x35, 0x26], .zSlaMemXy .iy 0x35),
  ([0xDD, 0xCB, 0x35, 0x2E], .zSraMemXy .ix 0x35),
  ([0xFD, 0xCB, 0xC3, 0x2E], .zSraMemXy .iy 0xC3),
  ([0xDD, 0xCB, 0xC3, 0x36], .zSllMemXy .ix 0xC3),
  ([0xFD, 0xCB, 0x5A, 0x36], .zSllMemXy .iy 0x5A),
  ([0xDD, 0xCB, 0x5A, 0x3E], .zSrlMemXy .ix 0x5A),
  ([0xFD, 0xCB, 0x99, 0x3E], .zSrlMemXy .iy 0x99),
  ([0xDD, 0xCB, 0x99, 0x32], .zRotMemXyR .ix 0x99 .sll .d),
  ([0xFD, 0xCB, 0x01, 0x3B], .zRotMemXyR .iy 0x01 .srl .e),
  ([0xDD, 0xCB, 0x80, 0x04], .zRotMemXyR .ix 0x80 .rlc .h),
  ([0xFD, 0xCB, 0x7F, 0x0D], .zRotMemXyR .iy 0x7F .rrc .l),
  ([0xDD, 0xCB, 0xFE, 0x17], .zRotMemXyR .ix 0xFE .rl .a),
  ([0xFD, 0xCB, 0x35, 0x18], .zRotMemXyR .iy 0x35 .rr .b),
  ([0xDD, 0xCB, 0xC3, 0x21], .zRotMemXyR .ix 0xC3 .sla .c),
  ([0xFD, 0xCB, 0x5A, 0x2A], .zRotMemXyR .iy 0x5A .sra .d),
  ([0xDD, 0xCB, 0x01, 0x76], .zBitBMemXy .ix 0x01 6),
  ([0xFD, 0xCB, 0x80, 0x7E], .zBitBMemXy .iy 0x80 7),
  ([0xDD, 0xCB, 0x7F, 0x46], .zBitBMemXy .ix 0x7F 0),
  ([0xFD, 0xCB, 0xFE, 0x4E], .zBitBMemXy .iy 0xFE 1),
  ([0xDD, 0xCB, 0x35, 0x56], .zBitBMemXy .ix 0x35 2),
  ([0xFD, 0xCB, 0xC3, 0x5E], .zBitBMemXy .iy 0xC3 3),
  ([0xDD, 0xCB, 0x5A, 0x66], .zBitBMemXy .ix 0x5A 4),
  ([0xFD, 0xCB, 0x99, 0x6E], .zBitBMemXy .iy 0x99 5),
  ([0xDD, 0xCB, 0x80, 0x72], .zBitBMemXyZ .ix 0x80 6 2),
  ([0xFD, 0xCB, 0x7F, 0x7B], .zBitBMemXyZ .iy 0x7F 7 3),
  ([0xDD, 0xCB, 0xFE, 0x44], .zBitBMemXyZ .ix 0xFE 0 4),
  ([0xFD, 0xCB, 0x35, 0x4D], .zBitBMemXyZ .iy 0x35 1 5)] = true := by decide +kernel

theorem test_decode_z80_20 : decodesAll .z80 [
  ([0xDD, 0xCB, 0xC3, 0x57], .zBitBMemXyZ .ix 0xC3 2 7),
  ([0xFD, 0xCB, 0x5A, 0x58], .zBitBMemXyZ .iy 0x5A 3 0),
  ([0xDD, 0xCB, 0x99, 0x61], .zBitBMemXyZ .ix 0x99 4 1),
  ([0xFD, 0xCB, 0x01, 0x6A], .zBitBMemXyZ .iy 0x01 5 2),
  ([0xDD, 0xCB, 0x7F, 0xB6], .zResBMemXy .ix 0x7F 6),
  ([0xFD, 0xCB, 0xFE, 0xBE], .zResBMemXy .iy 0xFE 7),
  ([0xDD, 0xCB, 0x35, 0x86], .zResBMemXy .ix 0x35 0),
  ([0xFD, 0xCB, 0xC3, 0x8E], .zResBMemXy .iy 0xC3 1),
  ([0xDD, 0xCB, 0x5A, 0x96], .zResBMemXy .ix 0x5A 2),
  ([0xFD, 0xCB, 0x99, 0x9E], .zResBMemXy .iy 0x99 3),
  ([0xDD, 0xCB, 0x01, 0xA6], .zResBMemXy .ix 0x01 4),
  ([0xFD, 0xCB, 0x80, 0xAE], .zResBMemXy .iy 0x80 5),
  ([0xDD, 0xCB, 0xFE, 0xB2], .zResBMemXyR .ix 0xFE 6 .d),
  ([0xFD, 0xCB, 0x35, 0xBB], .zResBMemXyR .iy 0x35 7 .e),
  ([0xDD, 0xCB, 0xC3, 0x84], .zResBMemXyR .ix 0xC3 0 .h),
  ([0xFD, 0xCB, 0x5A, 0x8D], .zResBMemXyR .iy 0x5A 1 .l),
  ([0xDD, 0xCB, 0x99, 0x97], .zResBMemXyR .ix 0x99 2 .a),
  ([0xFD, 0xCB, 0x01, 0x98], .zResBMemXyR .iy 0x01 3 .b),
  ([0xDD, 0xCB, 0x80, 0xA1], .zResBMemXyR .ix 0x80 4 .c),
  ([0xFD, 0xCB, 0x7F, 0xAA], .zResBMemXyR .iy 0x7F 5 .d),
  ([0xDD, 0xCB, 0x35, 0xF6], .zSetBMemXy .ix 0x35 6),
  ([0xFD, 0xCB, 0xC3, 0xFE], .zSetBMemXy .iy 0xC3 7),
  ([0xDD, 0xCB, 0x5A, 0xC6], .zSetBMemXy .ix 0x5A 0),
  ([0xFD, 0xCB, 0x99, 0xCE], .zSetBMemXy .iy 0x99 1),
  ([0xDD, 0xCB, 0x01, 0xD6], .zSetBMemXy .ix 0x01 2),
  ([0xFD, 0xCB, 0x80, 0xDE], .zSetBMemXy .iy 0x80 3),
  ([0xDD, 0xCB, 0x7F, 0xE6], .zSetBMemXy .ix 0x7F 4),
  ([0xFD, 0xCB, 0xFE, 0xEE], .zSetBMemXy .iy 0xFE 5)] = true := by decide +kernel

theorem test_decode_z80_21 : decodesAll .z80 [
  ([0xDD, 0xCB, 0xC3, 0xF2], .zSetBMemXyR .ix 0xC3 6 .d),
  ([0xFD, 0xCB, 0x5A, 0xFB], .zSetBMemXyR .iy 0x5A 7 .e),
  ([0xDD, 0xCB, 0x99, 0xC4], .zSetBMemXyR .ix 0x99 0 .h),
  ([0xFD, 0xCB, 0x01, 0xCD], .zSetBMemXyR .iy 0x01 1 .l),
  ([0xDD, 0xCB, 0x80, 0xD7], .zSetBMemXyR .ix 0x80 2 .a),
  ([0xFD, 0xCB, 0x7F, 0xD8], .zSetBMemXyR .iy 0x7F 3 .b),
  ([0xDD, 0xCB, 0xFE, 0xE1], .zSetBMemXyR .ix 0xFE 4 .c),
  ([0xFD, 0xCB, 0x35, 0xEA], .zSetBMemXyR .iy 0x35 5 .d),
  ([0xDD, 0x91], .zPrefix .ix 0x91),
  ([0xFD, 0xDC], .zPrefix .iy 0xDC),
  ([0xDD, 0xFD], .zPrefixPrefix .ix .iy),
  ([0xFD, 0xDD], .zPrefixPrefix .iy .ix)] = true := by decide +kernel

theorem test_decode_m6502_1 : decodesAll .m6502 [
  ([0x00], .mBrk),
  ([0x01, 0x5A], .mOraIzx 0x5A),
  ([0x05, 0x99], .mOraZp 0x99),
  ([0x06, 0x01], .mAslZp 0x01),
  ([0x08], .mPhp),
  ([0x09, 0x7F], .mOraImm 0x7F),
  ([0x0A], .mAslA),
  ([0x0D, 0x21, 0x43], .mOraAbs 0x4321),
  ([0x0E, 0xEF, 0xBE], .mAslAbs 0xBEEF),
  ([0x10, 0x5A], .mBpl 0x5A),
  ([0x11, 0x99], .mOraIzy 0x99),
  ([0x15, 0x01], .mOraZpX 0x01),
  ([0x16, 0x80], .mAslZpX 0x80),
  ([0x18], .mClc),
  ([0x19, 0xFF, 0x00], .mOraAbsY 0x00FF),
  ([0x1D, 0x21, 0x43], .mOraAbsX 0x4321),
  ([0x1E, 0xEF, 0xBE], .mAslAbsX 0xBEEF),
  ([0x20, 0xFF, 0x7F], .mJsr 0x7FFF),
  ([0x21, 0x99], .mAndIzx 0x99),
  ([0x24, 0x01], .mBitZp 0x01),
  ([0x25, 0x80], .mAndZp 0x80),
  ([0x26, 0x7F], .mRolZp 0x7F),
  ([0x28], .mPlp),
  ([0x29, 0x35], .mAndImm 0x35),
  ([0x2A], .mRolA),
  ([0x2C, 0xFF, 0x7F], .mBitAbs 0x7FFF),
  ([0x2D, 0x00, 0xC0], .mAndAbs 0xC000),
  ([0x2E, 0xF0, 0x12], .mRolAbs 0x12F0)] = true := by decide +kernel

theorem test_decode_m6502_2 : decodesAll .m6502 [
  ([0x30, 0x80], .mBmi 0x80),
  ([0x31, 0x7F], .mAndIzy 0x7F),
  ([0x35, 0xFE], .mAndZpX 0xFE),
  ([0x36, 0x35], .mRolZpX 0x35),
  ([0x38], .mSec),
  ([0x39, 0xFF, 0x7F], .mAndAbsY 0x7FFF),
  ([0x3D, 0x00, 0xC0], .mAndAbsX 0xC000),
  ([0x3E, 0xF0, 0x12], .mRolAbsX 0x12F0),
  ([0x40], .mRti),
  ([0x41, 0x7F], .mEorIzx 0x7F),
  ([0x45, 0xFE], .mEorZp 0xFE),
  ([0x46, 0x35], .mLsrZp 0x35),
  ([0x48], .mPha),
  ([0x49, 0x5A], .mEorImm 0x5A),
  ([0x4A], .mLsrA),
  ([0x4C, 0xF0, 0x12], .mJmpAbs 0x12F0),
  ([0x4D, 0x01, 0x80], .mEorAbs 0x8001),
  ([0x4E, 0x00, 0xFF], .mLsrAbs 0xFF00),
  ([0x50, 0xFE], .mBvc 0xFE),
  ([0x51, 0x35], .mEorIzy 0x35),
  ([0x55, 0xC3], .mEorZpX 0xC3),
  ([0x56, 0x5A], .mLsrZpX 0x5A),
  ([0x58], .mCli),
  ([0x59, 0xF0, 0x12], .mEorAbsY 0x12F0),
  ([0x5D, 0x01, 0x80], .mEorAbsX 0x8001),
  ([0x5E, 0x00, 0xFF], .mLsrAbsX 0xFF00),
  ([0x60], .mRts),
  ([0x61, 0x35], .mAdcIzx 0x35)] = true := by decide +kernel

theorem test_decode_m6502_3 : decodesAll .m6502 [
  ([0x65, 0xC3], .mAdcZp 0xC3),
  ([0x66, 0x5A], .mRorZp 0x5A),
  ([0x68], .mPla),
  ([0x69, 0x01], .mAdcImm 0x01),
  ([0x6A], .mRorA),
  ([0x6C, 0x00, 0xFF], .mJmpInd 0xFF00),
  ([0x6D, 0xFF, 0x00], .mAdcAbs 0x00FF),
  ([0x6E, 0x21, 0x43], .mRorAbs 0x4321),
  ([0x70, 0xC3], .mBvs 0xC3),
  ([0x71, 0x5A], .mAdcIzy 0x5A),
  ([0x75, 0x99], .mAdcZpX 0x99),
  ([0x76, 0x01], .mRorZpX 0x01),
  ([0x78], .mSei),
  ([0x79, 0x00, 0xFF], .mAdcAbsY 0xFF00),
  ([0x7D, 0xFF, 0x00], .mAdcAbsX 0x00FF),
  ([0x7E, 0x21, 0x43], .mRorAbsX 0x4321),
  ([0x81, 0xC3], .mStaIzx 0xC3),
  ([0x84, 0x5A], .mStyZp 0x5A),
  ([0x85, 0x99], .mStaZp 0x99),
  ([0x86, 0x01], .mStxZp 0x01),
  ([0x88], .mDey),
  ([0x8A], .mTxa),
  ([0x8C, 0xFF, 0x00], .mStyAbs 0x00FF),
  ([0x8D, 0x21, 0x43], .mStaAbs 0x4321),
  ([0x8E, 0xEF, 0xBE], .mStxAbs 0xBEEF),
  ([0x90, 0x5A], .mBcc 0x5A),
  ([0x91, 0x99], .mStaIzy 0x99),
  ([0x94, 0x01], .mStyZpX 0x01)] = true := by decide +kernel

theorem test_decode_m6502_4 : decodesAll .m6502 [
  ([0x95, 0x80], .mStaZpX 0x80),
  ([0x96, 0x7F], .mStxZpY 0x7F),
  ([0x98], .mTya),
  ([0x99, 0x21, 0x43], .mStaAbsY 0x4321),
  ([0x9A], .mTxs),
  ([0x9D, 0xFF, 0x7F], .mStaAbsX 0x7FFF),
  ([0xA0, 0x99], .mLdyImm 0x99),
  ([0xA1, 0x01], .mLdaIzx 0x01),
  ([0xA2, 0x80], .mLdxImm 0x80),
  ([0xA4, 0x7F], .mLdyZp 0x7F),
  ([0xA5, 0xFE], .mLdaZp 0xFE),
  ([0xA6, 0x35], .mLdxZp 0x35),
  ([0xA8], .mTay),
  ([0xA9, 0x5A], .mLdaImm 0x5A),
  ([0xAA], .mTax),
  ([0xAC, 0xF0, 0x12], .mLdyAbs 0x12F0),
  ([0xAD, 0x01, 0x80], .mLdaAbs 0x8001),
  ([0xAE, 0x00, 0xFF], .mLdxAbs 0xFF00),
  ([0xB0, 0xFE], .mBcs 0xFE),
  ([0xB1, 0x35], .mLdaIzy 0x35),
  ([0xB4, 0xC3], .mLdyZpX 0xC3),
  ([0xB5, 0x5A], .mLdaZpX 0x5A),
  ([0xB6, 0x99], .mLdxZpY 0x99),
  ([0xB8], .mClv),
  ([0xB9, 0x01, 0x80], .mLdaAbsY 0x8001),
  ([0xBA], .mTsx),
  ([0xBC, 0xFF, 0x00], .mLdyAbsX 0x00FF),
  ([0xBD, 0x21, 0x43], .mLdaAbsX 0x4321)] = true := by decide +kernel

theorem test_decode_m6502_5 : decodesAll .m6502 [
  ([0xBE, 0xEF, 0xBE], .mLdxAbsY 0xBEEF),
  ([0xC0, 0x5A], .mCpyImm 0x5A),
  ([0xC1, 0x99], .mCmpIzx 0x99),
  ([0xC4, 0x01], .mCpyZp 0x01),
  ([0xC5, 0x80], .mCmpZp 0x80),
  ([0xC6, 0x7F], .mDecZp 0x7F),
  ([0xC8], .mIny),
  ([0xC9, 0x35], .mCmpImm 0x35),
  ([0xCA], .mDex),
  ([0xCC, 0xFF, 0x7F], .mCpyAbs 0x7FFF),
  ([0xCD, 0x00, 0xC0], .mCmpAbs 0xC000),
  ([0xCE, 0xF0, 0x12], .mDecAbs 0x12F0),
  ([0xD0, 0x80], .mBne 0x80),
  ([0xD1, 0x7F], .mCmpIzy 0x7F),
  ([0xD5, 0xFE], .mCmpZpX 0xFE),
  ([0xD6, 0x35], .mDecZpX 0x35),
  ([0xD8], .mCld),
  ([0xD9, 0xFF, 0x7F], .mCmpAbsY 0x7FFF),
  ([0xDD, 0x00, 0xC0], .mCmpAbsX 0xC000),
  ([0xDE, 0xF0, 0x12], .mDecAbsX 0x12F0),
  ([0xE0, 0x80], .mCpxImm 0x80),
  ([0xE1, 0x7F], .mSbcIzx 0x7F),
  ([0xE4, 0xFE], .mCpxZp 0xFE),
  ([0xE5, 0x35], .mSbcZp 0x35),
  ([0xE6, 0xC3], .mIncZp 0xC3),
  ([0xE8], .mInx),
  ([0xE9, 0x99], .mSbcImm 0x99),
  ([0xEA], .mNop)] = true := by decide +kernel

theorem test_decode_m6502_6 : decodesAll .m6502 [
  ([0xEC, 0x01, 0x80], .mCpxAbs 0x8001),
  ([0xED, 0x00, 0xFF], .mSbcAbs 0xFF00),
  ([0xEE, 0xFF, 0x00], .mIncAbs 0x00FF),
  ([0xF0, 0x35], .mBeq 0x35),
  ([0xF1, 0xC3], .mSbcIzy 0xC3),
  ([0xF5, 0x5A], .mSbcZpX 0x5A),
  ([0xF6, 0x99], .mIncZpX 0x99),
  ([0xF8], .mSed),
  ([0xF9, 0x01, 0x80], .mSbcAbsY 0x8001),
  ([0xFD, 0x00, 0xFF], .mSbcAbsX 0xFF00),
  ([0xFE, 0xFF, 0x00], .mIncAbsX 0x00FF),
  ([0x9E], .mIllegal 0x9E),
  ([0xFC], .mIllegal 0xFC)] = true := by decide +kernel

/-! ## One-step vectors of spec/95_test_vectors.md -/

theorem test_vectors_z80_1 : ([
  runsZ 0xFF [0xDD, 0x66, 0x7F] (fun z => { z with ix := 0xFFF0 }) [(0x006F, 0x5A)] 19 fun t => t.z.h == 0x5A && t.z.pc == 0x0103,
  runsZ 0xFF [0xDD, 0x36, 0x80, 0x99] (fun z => { z with ix := 0x8080 }) [] 19 fun t => t.z.pc == 0x0104 && t.ramByte 0x8000 == 0x99,
  runsZ 0xFF [0xFD, 0x6E, 0x00] (fun z => { z with iy := 0x4000 }) [(0x4000, 0x77)] 19 fun t => t.z.l == 0x77 && t.z.iy == 0x4000 && t.z.pc == 0x0103,
  runsZ 0xFF [0x74] (fun z => { z with h := 0x80, l := 0x01 }) [] 7 fun t => t.z.pc == 0x0101 && t.ramByte 0x8001 == 0x80,
  runsZ 0xFF [0x22, 0xFF, 0xFF] (fun z => { z with h := 0xBE, l := 0xEF }) [] 16 fun t => t.z.pc == 0x0103 && t.ramByte 0xFFFF == 0xEF && t.ramByte 0x0000 == 0xBE,
  runsZ 0xFF [0xED, 0x7B, 0xFF, 0xFF] id [(0xFFFF, 0x34), (0x0000, 0x12)] 20 fun t => t.z.sp == 0x1234 && t.z.pc == 0x0104,
  runsZ 0xFF [0xF5] (fun z => { z with a := 0x12, f := 0x34, sp := 0x0001 }) [] 11 fun t => t.z.sp == 0xFFFF && t.z.pc == 0x0101 && t.ramByte 0x0000 == 0x12 && t.ramByte 0xFFFF == 0x34,
  runsZ 0xFF [0xC1] (fun z => { z with sp := 0xFFFF }) [(0xFFFF, 0x34), (0x0000, 0x12)] 10 fun t => t.z.bc == 0x1234 && t.z.sp == 0x0001 && t.z.pc == 0x0101,
  runsZ 0xFF [0xF1] (fun z => { z with sp := 0x8000 }) [(0x8000, 0xFF), (0x8001, 0x80)] 10 fun t => t.z.a == 0x80 && t.z.f == 0xFF && t.z.sp == 0x8002 && t.z.pc == 0x0101,
  runsZ 0xFF [0xE3] (fun z => { z with sp := 0xFFFF, h := 0x12, l := 0x34 }) [(0xFFFF, 0xCD), (0x0000, 0xAB)] 19 fun t => t.z.hl == 0xABCD && t.z.sp == 0xFFFF && t.z.pc == 0x0101 && t.ramByte 0xFFFF == 0x34 && t.ramByte 0x0000 == 0x12,
  runsZ 0xFF [0xED, 0x57] (fun z => { z with i := 0x80, f := 0x01 }) [] 9 fun t => t.z.a == 0x80 && t.z.f == 0x81 && t.z.pc == 0x0102,
  runsZ 0xFF [0xED, 0x5F] (fun z => { z with r := 0x7E, iff2 := true }) [] 9 fun t => t.z.a == 0x00 && t.z.f == 0x44 && t.z.r == 0x00 && t.z.pc == 0x0102].all id) = true := by decide +kernel

theorem test_vectors_z80_2 : ([
  runsZ 0xFF [0x40] (fun z => { z with b := 0x5A }) [] 4 fun t => t.z.b == 0x5A && t.z.pc == 0x0101,
  runsZ 0xFF [0xFD, 0xF9] (fun z => { z with iy := 0x1234 }) [] 10 fun t => t.z.sp == 0x1234 && t.z.pc == 0x0102,
  runsZ 0xFF [0x87] (fun z => { z with a := 0x80 }) [] 4 fun t => t.z.a == 0x00 && t.z.f == 0x45 && t.z.pc == 0x0101,
  runsZ 0xFF [0x80] (fun z => { z with a := 0x7F, b := 0x01 }) [] 4 fun t => t.z.a == 0x80 && t.z.f == 0x94 && t.z.pc == 0x0101,
  runsZ 0xFF [0x86] (fun z => { z with a := 0x0F, h := 0x80, l := 0x00 }) [(0x8000, 0x01)] 7 fun t => t.z.a == 0x10 && t.z.f == 0x10 && t.z.pc == 0x0101,
  runsZ 0xFF [0x88] (fun z => { z with a := 0x7F, b := 0x00, f := 0x01 }) [] 4 fun t => t.z.a == 0x80 && t.z.f == 0x94 && t.z.pc == 0x0101,
  runsZ 0xFF [0xCE, 0xFF] (fun z => { z with a := 0x00, f := 0x01 }) [] 7 fun t => t.z.a == 0x00 && t.z.f == 0x51 && t.z.pc == 0x0102,
  runsZ 0xFF [0x97] (fun z => { z with a := 0x5A, f := 0x01 }) [] 4 fun t => t.z.a == 0x00 && t.z.f == 0x42 && t.z.pc == 0x0101,
  runsZ 0xFF [0xD6, 0x01] (fun z => { z with a := 0x80 }) [] 7 fun t => t.z.a == 0x7F && t.z.f == 0x3E && t.z.pc == 0x0102,
  runsZ 0xFF [0x9E] (fun z => { z with a := 0x00, h := 0x80, l := 0x00, f := 0x01 }) [(0x8000, 0xFF)] 7 fun t => t.z.a == 0x00 && t.z.f == 0x53 && t.z.pc == 0x0101,
  runsZ 0xFF [0xDD, 0x9E, 0xFF] (fun z => { z with a := 0x10, ix := 0x8001, f := 0x01 }) [(0x8000, 0x0F)] 19 fun t => t.z.a == 0x00 && t.z.f == 0x52 && t.z.pc == 0x0103,
  runsZ 0xFF [0xDD, 0xA6, 0x02] (fun z => { z with a := 0xFF, ix := 0x8000 }) [(0x8002, 0x00)] 19 fun t => t.z.a == 0x00 && t.z.f == 0x54 && t.z.pc == 0x0103].all id) = true := by decide +kernel

theorem test_vectors_z80_3 : ([
  runsZ 0xFF [0xA0] (fun z => { z with a := 0xAA, b := 0xA0, f := 0x01 }) [] 4 fun t => t.z.a == 0xA0 && t.z.f == 0xB4 && t.z.pc == 0x0101,
  runsZ 0xFF [0xAE] (fun z => { z with a := 0xFF, h := 0x80, l := 0x00 }) [(0x8000, 0x0F)] 7 fun t => t.z.a == 0xF0 && t.z.f == 0xA4 && t.z.pc == 0x0101,
  runsZ 0xFF [0xAF] (fun z => { z with a := 0x5A, f := 0xFF }) [] 4 fun t => t.z.a == 0x00 && t.z.f == 0x44 && t.z.pc == 0x0101,
  runsZ 0xFF [0xF6, 0x28] (fun z => { z with a := 0x00 }) [] 7 fun t => t.z.a == 0x28 && t.z.f == 0x2C && t.z.pc == 0x0102,
  runsZ 0xFF [0xFD, 0xBE, 0x01] (fun z => { z with a := 0x10, iy := 0x8000 }) [(0x8001, 0x28)] 19 fun t => t.z.a == 0x10 && t.z.f == 0xBB && t.z.pc == 0x0103,
  runsZ 0xFF [0xFE, 0x80] (fun z => { z with a := 0x7F }) [] 7 fun t => t.z.a == 0x7F && t.z.f == 0x87 && t.z.pc == 0x0102,
  runsZ 0xFF [0x34] (fun z => { z with h := 0x80, l := 0x00, f := 0x01 }) [(0x8000, 0x7F)] 11 fun t => t.z.f == 0x95 && t.z.pc == 0x0101 && t.ramByte 0x8000 == 0x80,
  runsZ 0xFF [0x04] (fun z => { z with b := 0xFF, f := 0x01 }) [] 4 fun t => t.z.b == 0x00 && t.z.f == 0x51 && t.z.pc == 0x0101,
  runsZ 0xFF [0xDD, 0x35, 0x80] (fun z => { z with ix := 0x8000 }) [(0x7F80, 0x80)] 23 fun t => t.z.f == 0x3E && t.z.pc == 0x0103 && t.ramByte 0x7F80 == 0x7F,
  runsZ 0xFF [0x3D] (fun z => { z with a := 0x00, f := 0x01 }) [] 4 fun t => t.z.a == 0xFF && t.z.f == 0xBB && t.z.pc == 0x0101,
  runsZ 0xFF [0x27] (fun z => { z with a := 0x9A }) [] 4 fun t => t.z.a == 0x00 && t.z.f == 0x55 && t.z.pc == 0x0101,
  runsZ 0xFF [0x27] (fun z => { z with a := 0x00, f := 0x13 }) [] 4 fun t => t.z.a == 0x9A && t.z.f == 0x9F && t.z.pc == 0x0101].all id) = true := by decide +kernel

theorem test_vectors_z80_4 : ([
  runsZ 0xFF [0x2F] (fun z => { z with a := 0xD7, f := 0xC5 }) [] 4 fun t => t.z.a == 0x28 && t.z.f == 0xFF && t.z.pc == 0x0101,
  runsZ 0xFF [0xED, 0x44] (fun z => { z with a := 0x80 }) [] 8 fun t => t.z.a == 0x80 && t.z.f == 0x87 && t.z.pc == 0x0102,
  runsZ 0xFF [0xED, 0x44] (fun z => { z with a := 0x01 }) [] 8 fun t => t.z.a == 0xFF && t.z.f == 0xBB && t.z.pc == 0x0102,
  runsZ 0xFF [0x37] (fun z => { z with a := 0x00, f := 0xFE }) [] 4 fun t => t.z.f == 0xC5 && t.z.pc == 0x0101,
  runsZ 0xFF [0x3F] (fun z => { z with a := 0xFF, f := 0x01 }) [] 4 fun t => t.z.f == 0x38 && t.z.pc == 0x0101,
  runsZ 0xFF [0x3F] (fun z => { z with a := 0x00, f := 0xC4 }) [] 4 fun t => t.z.f == 0xC5 && t.z.pc == 0x0101,
  runsZ 0xFF [0x29] (fun z => { z with h := 0x80, l := 0x00, f := 0xC4 }) [] 11 fun t => t.z.hl == 0x0000 && t.z.f == 0xC5 && t.z.pc == 0x0101,
  runsZ 0xFF [0x39] (fun z => { z with h := 0x0F, l := 0xFF, sp := 0x0001 }) [] 11 fun t => t.z.hl == 0x1000 && t.z.f == 0x10 && t.z.pc == 0x0101,
  runsZ 0xFF [0xED, 0x4A] (fun z => { z with h := 0x7F, l := 0xFF, b := 0x00, c := 0x01 }) [] 15 fun t => t.z.hl == 0x8000 && t.z.f == 0x94 && t.z.pc == 0x0102,
  runsZ 0xFF [0xED, 0x6A] (fun z => { z with h := 0x80, l := 0x00 }) [] 15 fun t => t.z.hl == 0x0000 && t.z.f == 0x45 && t.z.pc == 0x0102,
  runsZ 0xFF [0xED, 0x52] (fun z => { z with h := 0x80, l := 0x00, d := 0x00, e := 0x01 }) [] 15 fun t => t.z.hl == 0x7FFF && t.z.f == 0x3E && t.z.pc == 0x0102,
  runsZ 0xFF [0xED, 0x42] (fun z => { z with h := 0x00, l := 0x00, b := 0x00, c := 0x00, f := 0x01 }) [] 15 fun t => t.z.hl == 0xFFFF && t.z.f == 0xBB && t.z.pc == 0x0102].all id) = true := by decide +kernel

theorem test_vectors_z80_5 : ([
  runsZ 0xFF [0xDD, 0x29] (fun z => { z with ix := 0x4800 }) [] 15 fun t => t.z.ix == 0x9000 && t.z.f == 0x10 && t.z.pc == 0x0102,
  runsZ 0xFF [0xFD, 0x09] (fun z => { z with iy := 0xFFFF, b := 0x00, c := 0x01, h := 0x55, l := 0x55 }) [] 15 fun t => t.z.iy == 0x0000 && t.z.f == 0x11 && t.z.hl == 0x5555 && t.z.pc == 0x0102,
  runsZ 0xFF [0x03] (fun z => { z with b := 0xFF, c := 0xFF, f := 0xFF }) [] 6 fun t => t.z.bc == 0x0000 && t.z.f == 0xFF && t.z.pc == 0x0101,
  runsZ 0xFF [0x3B] (fun z => { z with sp := 0x0000 }) [] 6 fun t => t.z.sp == 0xFFFF && t.z.f == 0x00 && t.z.pc == 0x0101,
  runsZ 0xFF [0x07] (fun z => { z with a := 0x94, f := 0xC4 }) [] 4 fun t => t.z.a == 0x29 && t.z.f == 0xED && t.z.pc == 0x0101,
  runsZ 0xFF [0x0F] (fun z => { z with a := 0x29 }) [] 4 fun t => t.z.a == 0x94 && t.z.f == 0x01 && t.z.pc == 0x0101,
  runsZ 0xFF [0x1F] (fun z => { z with a := 0x00, f := 0x01 }) [] 4 fun t => t.z.a == 0x80 && t.z.f == 0x00 && t.z.pc == 0x0101,
  runsZ 0xFF [0xCB, 0x06] (fun z => { z with h := 0x80, l := 0x00 }) [(0x8000, 0x81)] 15 fun t => t.z.f == 0x05 && t.z.pc == 0x0102 && t.ramByte 0x8000 == 0x03,
  runsZ 0xFF [0xCB, 0x11] (fun z => { z with c := 0x7F, f := 0x01 }) [] 8 fun t => t.z.c == 0xFF && t.z.f == 0xAC && t.z.pc == 0x0102,
  runsZ 0xFF [0xCB, 0x0B] (fun z => { z with e := 0x00, f := 0x01 }) [] 8 fun t => t.z.e == 0x00 && t.z.f == 0x44 && t.z.pc == 0x0102,
  runsZ 0xFF [0xDD, 0xCB, 0x05, 0x1E] (fun z => { z with ix := 0x8000, f := 0x01 }) [(0x8005, 0x01)] 23 fun t => t.z.f == 0x81 && t.z.pc == 0x0104 && t.ramByte 0x8005 == 0x80,
  runsZ 0xFF [0xCB, 0x26] (fun z => { z with h := 0x80, l := 0x00 }) [(0x8000, 0xFF)] 15 fun t => t.z.f == 0xA9 && t.z.pc == 0x0102 && t.ramByte 0x8000 == 0xFE].all id) = true := by decide +kernel

theorem test_vectors_z80_6 : ([
  runsZ 0xFF [0xCB, 0x28] (fun z => { z with b := 0x80 }) [] 8 fun t => t.z.b == 0xC0 && t.z.f == 0x84 && t.z.pc == 0x0102,
  runsZ 0xFF [0xFD, 0xCB, 0xFF, 0x2E] (fun z => { z with iy := 0x8000 }) [(0x7FFF, 0x03)] 23 fun t => t.z.f == 0x01 && t.z.pc == 0x0104 && t.ramByte 0x7FFF == 0x01,
  runsZ 0xFF [0xCB, 0x3E] (fun z => { z with h := 0x80, l := 0x00 }) [(0x8000, 0x81)] 15 fun t => t.z.f == 0x01 && t.z.pc == 0x0102 && t.ramByte 0x8000 == 0x40,
  runsZ 0xFF [0xED, 0x6F] (fun z => { z with a := 0x12, h := 0x80, l := 0x00, f := 0x01 }) [(0x8000, 0x34)] 18 fun t => t.z.a == 0x13 && t.z.f == 0x01 && t.z.pc == 0x0102 && t.ramByte 0x8000 == 0x42,
  runsZ 0xFF [0xED, 0x67] (fun z => { z with a := 0x12, h := 0x80, l := 0x00 }) [(0x8000, 0x34)] 18 fun t => t.z.a == 0x14 && t.z.f == 0x04 && t.z.pc == 0x0102 && t.ramByte 0x8000 == 0x23,
  runsZ 0xFF [0xCB, 0x7E] (fun z => { z with h := 0x80, l := 0x00, f := 0x01 }) [(0x8000, 0x80)] 12 fun t => t.z.pc == 0x0102,
  runsZ 0xFF [0xCB, 0x46] (fun z => { z with h := 0x80, l := 0x00 }) [(0x8000, 0xFE)] 12 fun t => t.z.pc == 0x0102,
  runsZ 0xFF [0xFD, 0xCB, 0xFF, 0x5E] (fun z => { z with iy := 0x2801 }) [(0x2800, 0x08)] 20 fun t => t.z.f == 0x38 && t.z.pc == 0x0104,
  runsZ 0xFF [0xCB, 0x6F] (fun z => { z with a := 0x20 }) [] 8 fun t => t.z.f == 0x30 && t.z.pc == 0x0102,
  runsZ 0xFF [0xCB, 0x7C] (fun z => { z with h := 0x7F, f := 0x01 }) [] 8 fun t => t.z.f == 0x7D && t.z.pc == 0x0102,
  runsZ 0xFF [0xCB, 0xC6] (fun z => { z with h := 0x80, l := 0x00, f := 0xFF }) [] 15 fun t => t.z.f == 0xFF && t.z.pc == 0x0102 && t.ramByte 0x8000 == 0x01,
  runsZ 0xFF [0xCB, 0xE3] (fun z => { z with e := 0x00 }) [] 8 fun t => t.z.e == 0x10 && t.z.pc == 0x0102].all id) = true := by decide +kernel

theorem test_vectors_z80_7 : ([
  runsZ 0xFF [0xDD, 0xCB, 0x10, 0xBE] (fun z => { z with ix := 0x8000 }) [(0x8010, 0xFF)] 23 fun t => t.z.pc == 0x0104 && t.ramByte 0x8010 == 0x7F,
  runsZ 0xFF [0xCB, 0x87] (fun z => { z with a := 0xFF, f := 0x00 }) [] 8 fun t => t.z.a == 0xFE && t.z.f == 0x00 && t.z.pc == 0x0102,
  runsZ 0xFF [0x18, 0xFD] (fun z => { z with pc := 0x0000 }) [] 12 fun t => t.z.pc == 0xFFFF,
  runsZ 0xFF [0x18, 0x7F] id [] 12 fun t => t.z.pc == 0x0181,
  runsZ 0xFF [0x38, 0x10] (fun z => { z with f := 0x01 }) [] 12 fun t => t.z.pc == 0x0112,
  runsZ 0xFF [0x38, 0x10] (fun z => { z with f := 0xFE }) [] 7 fun t => t.z.pc == 0x0102,
  runsZ 0xFF [0x10, 0xFE] (fun z => { z with b := 0x00 }) [] 13 fun t => t.z.b == 0xFF && t.z.pc == 0x0100,
  runsZ 0xFF [0x10, 0xFE] (fun z => { z with b := 0x01 }) [] 8 fun t => t.z.b == 0x00 && t.z.pc == 0x0102,
  runsZ 0xFF [0xCC, 0x00, 0x20] (fun z => { z with sp := 0x8000, f := 0x40 }) [] 17 fun t => t.z.sp == 0x7FFE && t.z.pc == 0x2000 && t.ramByte 0x7FFF == 0x01 && t.ramByte 0x7FFE == 0x03,
  runsZ 0xFF [0xCC, 0x00, 0x20] (fun z => { z with sp := 0x8000, f := 0x00 }) [] 10 fun t => t.z.sp == 0x8000 && t.z.pc == 0x0103,
  runsZ 0xFF [0xD0] (fun z => { z with sp := 0x7FFE }) [(0x7FFE, 0x34), (0x7FFF, 0x12)] 11 fun t => t.z.sp == 0x8000 && t.z.pc == 0x1234,
  runsZ 0xFF [0xD0] (fun z => { z with sp := 0x7FFE, f := 0x01 }) [] 5 fun t => t.z.sp == 0x7FFE && t.z.pc == 0x0101].all id) = true := by decide +kernel

theorem test_vectors_z80_8 : ([
  runsZ 0xFF [0xC9] (fun z => { z with sp := 0xFFFF }) [(0xFFFF, 0x00), (0x0000, 0x40)] 10 fun t => t.z.sp == 0x0001 && t.z.pc == 0x4000,
  runsZ 0xFF [0xEF] (fun z => { z with pc := 0xFFFF, sp := 0xFFFF }) [] 11 fun t => t.z.sp == 0xFFFD && t.z.pc == 0x0028 && t.ramByte 0xFFFE == 0x00 && t.ramByte 0xFFFD == 0x00,
  runsZ 0xFF [0xED, 0x45] (fun z => { z with sp := 0x8000, iff2 := true }) [(0x8000, 0x00), (0x8001, 0x30)] 14 fun t => t.z.iff1 == true && t.z.iff2 == true && t.z.sp == 0x8002 && t.z.pc == 0x3000,
  runsZ 0xFF [0xED, 0x4D] (fun z => { z with sp := 0x8000, iff1 := true, iff2 := false }) [(0x8000, 0x00), (0x8001, 0x30)] 14 fun t => t.z.iff1 == false && t.z.iff2 == false && t.z.sp == 0x8002 && t.z.pc == 0x3000,
  runsZ 0xFF [0xE9] (fun z => { z with h := 0xFF, l := 0xFF }) [] 4 fun t => t.z.pc == 0xFFFF,
  runsZ 0xFF [0xDD, 0xE9] (fun z => { z with ix := 0x1234, h := 0x56, l := 0x78 }) [] 8 fun t => t.z.pc == 0x1234,
  runsZ 0xFF [0xF3] (fun z => { z with iff1 := true, iff2 := true }) [] 4 fun t => t.z.iff1 == false && t.z.iff2 == false && t.z.pc == 0x0101,
  runsZ 0xFF [0xED, 0x5E] id [] 8 fun t => t.z.im == .im2 && t.z.pc == 0x0102,
  runsZ 0xFF [0x76] id [] 4 fun t => t.z.halted == true && t.z.r == 0x01 && t.z.pc == 0x0100,
  runsZ 0xFF [0x00] (fun z => { z with r := 0x7F }) [] 4 fun t => t.z.r == 0x00 && t.z.pc == 0x0101,
  runsZ 0xFF [0xED, 0xB0] (fun z => { z with h := 0x80, l := 0x00, d := 0x80, e := 0x01, b := 0x00, c := 0x03 }) [(0x8000, 0xAA)] 21 fun t => t.z.hl == 0x8001 && t.z.de == 0x8002 && t.z.bc == 0x0002 && t.z.f == 0x2C && t.z.pc == 0x0100,
  runsZ 0xFF [0xED, 0xB0] (fun z => { z with h := 0x80, l := 0x00, d := 0x90, e := 0x00, b := 0x00, c := 0x00 }) [] 21 fun t => t.z.hl == 0x8001 && t.z.de == 0x9001 && t.z.bc == 0xFFFF && t.z.f == 0x04 && t.z.pc == 0x0100].all id) = true := by decide +kernel

theorem test_vectors_z80_9 : ([
  runsZ 0xFF [0xED, 0xA0] (fun z => { z with h := 0xFF, l := 0xFF, d := 0xFF, e := 0xFF, b := 0x00, c := 0x01, a := 0x02, f := 0xC1 }) [(0xFFFF, 0x08)] 16 fun t => t.z.hl == 0x0000 && t.z.de == 0x0000 && t.z.bc == 0x0000 && t.z.f == 0xE9 && t.z.pc == 0x0102 && t.ramByte 0x0000 == 0x00,
  runsZ 0xFF [0xED, 0xB1] (fun z => { z with a := 0x02, h := 0x80, l := 0x00, b := 0x00, c := 0x03 }) [(0x8000, 0x02)] 16 fun t => t.z.hl == 0x8001 && t.z.bc == 0x0002 && t.z.f == 0x46 && t.z.pc == 0x0102,
  runsZ 0xFF [0xED, 0xA9] (fun z => { z with a := 0x00, h := 0x00, l := 0x00, b := 0x00, c := 0x01, f := 0x01 }) [(0x0000, 0x01)] 16 fun t => t.z.hl == 0xFFFF && t.z.bc == 0x0000 && t.z.f == 0xBB && t.z.pc == 0x0102,
  runsZ 0x7F [0xED, 0xA2] (fun z => { z with b := 0x02, c := 0xBE, h := 0x80, l := 0x00 }) [] 16 fun t => t.z.hl == 0x8001 && t.z.b == 0x01 && t.z.f == 0x11 && t.z.pc == 0x0102 && t.ramByte 0x8000 == 0x7F && t.events == [.writeByte 0x8000 0x7F, .inPort 0x02BE 0x7F],
  runsZ 0xFF [0xED, 0xAA] (fun z => { z with b := 0x01, c := 0x00, h := 0x80, l := 0x00 }) [] 16 fun t => t.z.hl == 0x7FFF && t.z.b == 0x00 && t.z.f == 0x57 && t.z.pc == 0x0102 && t.ramByte 0x8000 == 0xFF,
  runsZ 0xFF [0xED, 0xA3] (fun z => { z with b := 0x02, c := 0xBE, h := 0x80, l := 0xFF }) [(0x80FF, 0x80)] 16 fun t => t.z.hl == 0x8100 && t.z.b == 0x01 && t.z.f == 0x02 && t.z.pc == 0x0102 && t.events == [.outPort 0x01BE 0x80],
  runsZ 0xFF [0xED, 0xAB] (fun z => { z with b := 0x01, c := 0xBE, h := 0x80, l := 0x00 }) [(0x8000, 0x01)] 16 fun t => t.z.hl == 0x7FFF && t.z.b == 0x00 && t.z.f == 0x55 && t.z.pc == 0x0102 && t.events == [.outPort 0x00BE 0x01],
  runsZ 0x00 [0xDB, 0xBE] (fun z => { z with a := 0x40, f := 0xFF }) [] 11 fun t => t.z.a == 0x00 && t.z.f == 0xFF && t.z.pc == 0x0102 && t.events == [.inPort 0x40BE 0x00],
  runsZ 0x80 [0xED, 0x40] (fun z => { z with b := 0x12, c := 0xBE, f := 0x01 }) [] 12 fun t => t.z.b == 0x80 && t.z.f == 0x81 && t.z.pc == 0x0102 && t.events == [.inPort 0x12BE 0x80],
  runsZ 0xFF [0xD3, 0xBE] (fun z => { z with a := 0x55 }) [] 11 fun t => t.z.pc == 0x0102 && t.events == [.outPort 0x55BE 0x55],
  runsZ 0xFF [0xED, 0x59] (fun z => { z with b := 0x34, c := 0xBF, e := 0x77 }) [] 12 fun t => t.z.pc == 0x0102 && t.events == [.outPort 0x34BF 0x77],
  runsZ 0xFF [0xDD, 0x26, 0x12] (fun z => { z with ix := 0x00FF, h := 0x77 }) [] 11 fun t => t.z.ix == 0x12FF && t.z.h == 0x77 && t.z.pc == 0x0103].all id) = true := by decide +kernel

theorem test_vectors_z80_10 : ([
  runsZ 0xFF [0xDD, 0x65] (fun z => { z with ix := 0x12AB, h := 0x33, l := 0x44 }) [] 8 fun t => t.z.ix == 0xABAB && t.z.hl == 0x3344 && t.z.pc == 0x0102,
  runsZ 0xFF [0xFD, 0x45] (fun z => { z with iy := 0x1234, l := 0x99 }) [] 8 fun t => t.z.b == 0x34 && t.z.pc == 0x0102,
  runsZ 0xFF [0xDD, 0x66, 0x01] (fun z => { z with ix := 0x8000 }) [(0x8001, 0x42)] 19 fun t => t.z.h == 0x42 && t.z.ix == 0x8000 && t.z.pc == 0x0103,
  runsZ 0xFF [0xFD, 0x85] (fun z => { z with a := 0x0F, iy := 0x12F1 }) [] 8 fun t => t.z.a == 0x00 && t.z.f == 0x51 && t.z.pc == 0x0102,
  runsZ 0xFF [0xDD, 0x2C] (fun z => { z with ix := 0x12FF }) [] 8 fun t => t.z.ix == 0x1200 && t.z.f == 0x50 && t.z.pc == 0x0102,
  runsZ 0xFF [0xFD, 0x25] (fun z => { z with iy := 0x0100 }) [] 8 fun t => t.z.iy == 0x0000 && t.z.f == 0x42 && t.z.pc == 0x0102,
  runsZ 0xFF [0xDD, 0x00] id [] 4 fun t => t.z.r == 0x01 && t.z.pc == 0x0101,
  runsZ 0xFF [0xCB, 0x36] (fun z => { z with h := 0x80, l := 0x00 }) [(0x8000, 0x80)] 15 fun t => t.z.f == 0x01 && t.z.pc == 0x0102 && t.ramByte 0x8000 == 0x01,
  runsZ 0xFF [0xCB, 0x37] (fun z => { z with a := 0x00 }) [] 8 fun t => t.z.a == 0x01 && t.z.f == 0x00 && t.z.pc == 0x0102,
  runsZ 0xFF [0xFD, 0xCB, 0x02, 0x12] (fun z => { z with iy := 0x8000, f := 0x01 }) [(0x8002, 0x80)] 23 fun t => t.z.d == 0x01 && t.z.f == 0x01 && t.z.pc == 0x0104 && t.ramByte 0x8002 == 0x01,
  runsZ 0xFF [0xDD, 0xCB, 0x00, 0xFF] (fun z => { z with ix := 0x8000 }) [(0x8000, 0x01)] 23 fun t => t.z.a == 0x81 && t.z.pc == 0x0104 && t.ramByte 0x8000 == 0x81,
  runsZ 0xFF [0xDD, 0xCB, 0x01, 0x84] (fun z => { z with ix := 0x8000 }) [(0x8001, 0xFF)] 23 fun t => t.z.h == 0xFE && t.z.ix == 0x8000 && t.z.pc == 0x0104 && t.ramByte 0x8001 == 0xFE].all id) = true := by decide +kernel

theorem test_vectors_z80_11 : ([
  runsZ 0xFF [0xDD, 0xCB, 0x00, 0x40] (fun z => { z with ix := 0x3000, b := 0x55 }) [(0x3000, 0x01)] 20 fun t => t.z.f == 0x30 && t.z.b == 0x55 && t.z.pc == 0x0104,
  runsZ 0x00 [0xED, 0x70] (fun z => { z with b := 0x00, c := 0xBF, f := 0x01 }) [] 12 fun t => t.z.f == 0x45 && t.z.a == 0x00 && t.z.pc == 0x0102 && t.events == [.inPort 0x00BF 0x00],
  runsZ 0xFF [0xED, 0x71] (fun z => { z with b := 0x12, c := 0xBE, a := 0x99 }) [] 12 fun t => t.z.pc == 0x0102 && t.events == [.outPort 0x12BE 0x00],
  runsZ 0xFF [0xED, 0x4C] (fun z => { z with a := 0x01 }) [] 8 fun t => t.z.a == 0xFF && t.z.f == 0xBB && t.z.pc == 0x0102,
  runsZ 0xFF [0xED, 0x55] (fun z => { z with sp := 0x8000, iff2 := true }) [(0x8001, 0x02)] 14 fun t => t.z.iff1 == true && t.z.sp == 0x8002 && t.z.pc == 0x0200,
  runsZ 0xFF [0xED, 0x4E] (fun z => { z with im := .im2 }) [] 8 fun t => t.z.im == .im0 && t.z.pc == 0x0102,
  runsZ 0xFF [0xED, 0x76] id [] 8 fun t => t.z.im == .im1 && t.z.pc == 0x0102,
  runsZ 0xFF [0xED, 0x7E] id [] 8 fun t => t.z.im == .im2 && t.z.pc == 0x0102,
  runsZ 0xFF [0xED, 0x77] (fun z => { z with a := 0x55 }) [] 8 fun t => t.z.r == 0x02 && t.z.pc == 0x0102 && t.events == [.illegalOp 0x0100 [0xED, 0x77]],
  runsZ 0xFF [0xED, 0x00] id [] 8 fun t => t.z.pc == 0x0102 && t.events == [.illegalOp 0x0100 [0xED, 0x00]],
  runsZ 0xFF [0xED, 0xFF] id [] 8 fun t => t.z.pc == 0x0102 && t.events == [.illegalOp 0x0100 [0xED, 0xFF]],
  runsZ 0xFF [0xED, 0x80] id [] 8 fun t => t.z.pc == 0x0102 && t.events == [.illegalOp 0x0100 [0xED, 0x80]]].all id) = true := by decide +kernel

theorem test_vectors_z80_12 : ([
  runsZ 0xFF [0xED, 0xA4] id [] 8 fun t => t.z.pc == 0x0102 && t.events == [.illegalOp 0x0100 [0xED, 0xA4]]].all id) = true := by decide +kernel

theorem test_vectors_m6502_1 : ([
  runsM [0xB5, 0xF0] (fun m => { m with x := 0x20 }) [(0x0010, 0x77), (0x0110, 0x66)] 4 fun t => t.m.a == 0x77 && t.m.pushedP false == 0x20,
  runsM [0xB6, 0xFF] (fun m => { m with y := 0x02 }) [(0x0001, 0x80), (0x0101, 0x01)] 4 fun t => t.m.x == 0x80 && t.m.pushedP false == 0xA0,
  runsM [0xBD, 0x10, 0x12] (fun m => { m with x := 0x20 }) [(0x1230, 0x01)] 4 fun t => t.m.a == 0x01 && t.m.pushedP false == 0x20,
  runsM [0xBD, 0xF0, 0x12] (fun m => { m with x := 0x20 }) [(0x1310, 0x01)] 5 fun t => t.m.a == 0x01 && t.m.pushedP false == 0x20,
  runsM [0xB9, 0xF0, 0xFF] (fun m => { m with y := 0x20 }) [(0x0010, 0x5A)] 5 fun t => t.m.a == 0x5A && t.m.pushedP false == 0x20,
  runsM [0x9D, 0xF0, 0x12] (fun m => { m with a := 0x42, x := 0x20 }) [] 5 fun t => t.ramByte 0x1310 == 0x42 && t.m.pushedP false == 0x20,
  runsM [0xA1, 0xFE] (fun m => { m with x := 0x01 }) [(0x00FF, 0x34), (0x0000, 0x12), (0x0100, 0x99), (0x1234, 0x80)] 6 fun t => t.m.a == 0x80 && t.m.pushedP false == 0xA0,
  runsM [0xB1, 0xFF] (fun m => { m with y := 0x01 }) [(0x00FF, 0xFF), (0x0000, 0x20), (0x0100, 0x99), (0x2100, 0x07)] 6 fun t => t.m.a == 0x07 && t.m.pushedP false == 0x20,
  runsM [0x91, 0x10] (fun m => { m with a := 0x33, y := 0xFF }) [(0x0010, 0x01), (0x0011, 0x40)] 6 fun t => t.ramByte 0x4100 == 0x33 && t.m.pushedP false == 0x20,
  runsM [0x96, 0xF8] (fun m => { m with x := 0x9C, y := 0x10 }) [] 4 fun t => t.ramByte 0x0008 == 0x9C && t.m.pushedP false == 0x20,
  runsM [0x9A] (fun m => { m with x := 0x00 }) [] 2 fun t => t.m.s == 0x00 && t.m.pushedP false == 0x20,
  runsM [0xBA] (fun m => { m with s := 0x00 }) [] 2 fun t => t.m.x == 0x00 && t.m.pushedP false == 0x22].all id) = true := by decide +kernel

theorem test_vectors_m6502_2 : ([
  runsM [0x48] (fun m => { m with a := 0x42, s := 0x00 }) [] 3 fun t => t.m.s == 0xFF && t.ramByte 0x0100 == 0x42,
  runsM [0x68] (fun m => { m with s := 0xFF }) [(0x0100, 0x80)] 4 fun t => t.m.a == 0x80 && t.m.s == 0x00 && t.m.pushedP false == 0xA0,
  runsM [0x08] (fun m => { m with fn := true, fv := true, fd := true, fi := true, fz := true, fc := true }) [] 3 fun t => t.m.s == 0xFC && t.ramByte 0x01FD == 0xFF && t.m.pushedP false == 0xEF,
  runsM [0x08] id [] 3 fun t => t.m.s == 0xFC && t.ramByte 0x01FD == 0x30,
  runsM [0x28] (fun m => { m with s := 0xFC, fn := true, fv := true, fd := true, fi := true, fz := true, fc := true }) [(0x01FD, 0x30)] 4 fun t => t.m.s == 0xFD && t.m.pushedP false == 0x20,
  runsM [0x28] (fun m => { m with s := 0xFC }) [(0x01FD, 0xCF)] 4 fun t => t.m.s == 0xFD && t.m.pushedP false == 0xEF,
  runsM [0x29, 0x0F] (fun m => { m with a := 0xF0 }) [] 2 fun t => t.m.a == 0x00 && t.m.pushedP false == 0x22,
  runsM [0x49, 0x80] (fun m => { m with a := 0x00 }) [] 2 fun t => t.m.a == 0x80 && t.m.pushedP false == 0xA0,
  runsM [0x09, 0x00] (fun m => { m with a := 0x00, fn := true }) [] 2 fun t => t.m.a == 0x00 && t.m.pushedP false == 0x22,
  runsM [0x24, 0x10] (fun m => { m with a := 0xFF, fn := true, fv := true }) [(0x0010, 0x3F)] 3 fun t => t.m.a == 0xFF && t.m.pushedP false == 0x20,
  runsM [0x2C, 0x34, 0x12] (fun m => { m with a := 0x0F }) [(0x1234, 0xF0)] 4 fun t => t.m.a == 0x0F && t.m.pushedP false == 0xE2,
  runsM [0x69, 0x01] (fun m => { m with a := 0x7F }) [] 2 fun t => t.m.a == 0x80 && t.m.pushedP false == 0xE0].all id) = true := by decide +kernel

theorem test_vectors_m6502_3 : ([
  runsM [0x69, 0x80] (fun m => { m with a := 0x80 }) [] 2 fun t => t.m.a == 0x00 && t.m.pushedP false == 0x63,
  runsM [0x69, 0xFF] (fun m => { m with a := 0xFF, fc := true }) [] 2 fun t => t.m.a == 0xFF && t.m.pushedP false == 0xA1,
  runsM [0x69, 0x00] (fun m => { m with a := 0x00, fc := true }) [] 2 fun t => t.m.a == 0x01 && t.m.pushedP false == 0x20,
  runsM [0x69, 0x40] (fun m => { m with a := 0x3F, fc := true }) [] 2 fun t => t.m.a == 0x80 && t.m.pushedP false == 0xE0,
  runsM [0x69, 0x01] (fun m => { m with a := 0x99, fd := true }) [] 2 fun t => t.m.a == 0x00 && t.m.pushedP false == 0xA9,
  runsM [0x69, 0x46] (fun m => { m with a := 0x58, fd := true, fc := true }) [] 2 fun t => t.m.a == 0x05 && t.m.pushedP false == 0xE9,
  runsM [0x69, 0x00] (fun m => { m with a := 0x0F, fd := true }) [] 2 fun t => t.m.a == 0x15 && t.m.pushedP false == 0x28,
  runsM [0x69, 0x38] (fun m => { m with a := 0x25, fd := true }) [] 2 fun t => t.m.a == 0x63 && t.m.pushedP false == 0x28,
  runsM [0x69, 0x25] (fun m => { m with a := 0x87, fd := true }) [] 2 fun t => t.m.a == 0x12 && t.m.pushedP false == 0xA9,
  runsM [0x69, 0x00] (fun m => { m with a := 0x00, fd := true }) [] 2 fun t => t.m.a == 0x00 && t.m.pushedP false == 0x2A,
  runsM [0x69, 0x00] (fun m => { m with a := 0x9A, fd := true }) [] 2 fun t => t.m.a == 0x00 && t.m.pushedP false == 0xA9,
  runsM [0x69, 0x10] (fun m => { m with a := 0x79, fd := true, fc := true }) [] 2 fun t => t.m.a == 0x90 && t.m.pushedP false == 0xE8].all id) = true := by decide +kernel

theorem test_vectors_m6502_4 : ([
  runsM [0xE9, 0x01] (fun m => { m with a := 0x00, fc := true }) [] 2 fun t => t.m.a == 0xFF && t.m.pushedP false == 0xA0,
  runsM [0xE9, 0x01] (fun m => { m with a := 0x80, fc := true }) [] 2 fun t => t.m.a == 0x7F && t.m.pushedP false == 0x61,
  runsM [0xE9, 0xFF] (fun m => { m with a := 0x7F, fc := true }) [] 2 fun t => t.m.a == 0x80 && t.m.pushedP false == 0xE0,
  runsM [0xE9, 0x10] (fun m => { m with a := 0x10 }) [] 2 fun t => t.m.a == 0xFF && t.m.pushedP false == 0xA0,
  runsM [0xE9, 0x00] (fun m => { m with a := 0x00 }) [] 2 fun t => t.m.a == 0xFF && t.m.pushedP false == 0xA0,
  runsM [0xE9, 0x01] (fun m => { m with a := 0x00, fd := true, fc := true }) [] 2 fun t => t.m.a == 0x99 && t.m.pushedP false == 0xA8,
  runsM [0xE9, 0x01] (fun m => { m with a := 0x50, fd := true }) [] 2 fun t => t.m.a == 0x48 && t.m.pushedP false == 0x29,
  runsM [0xE9, 0x12] (fun m => { m with a := 0x46, fd := true, fc := true }) [] 2 fun t => t.m.a == 0x34 && t.m.pushedP false == 0x29,
  runsM [0xE9, 0x21] (fun m => { m with a := 0x12, fd := true, fc := true }) [] 2 fun t => t.m.a == 0x91 && t.m.pushedP false == 0xA8,
  runsM [0xE9, 0x0A] (fun m => { m with a := 0x10, fd := true, fc := true }) [] 2 fun t => t.m.a == 0x00 && t.m.pushedP false == 0x29,
  runsM [0x7D, 0xF0, 0x12] (fun m => { m with a := 0x01, x := 0x10 }) [(0x1300, 0x02)] 5 fun t => t.m.a == 0x03 && t.m.pushedP false == 0x20,
  runsM [0xC9, 0x80] (fun m => { m with a := 0x7F, fv := true, fd := true }) [] 2 fun t => t.m.a == 0x7F && t.m.pushedP false == 0xE8].all id) = true := by decide +kernel

theorem test_vectors_m6502_5 : ([
  runsM [0xC9, 0x7F] (fun m => { m with a := 0x80 }) [] 2 fun t => t.m.a == 0x80 && t.m.pushedP false == 0x21,
  runsM [0xC9, 0x00] (fun m => { m with a := 0x00 }) [] 2 fun t => t.m.a == 0x00 && t.m.pushedP false == 0x23,
  runsM [0xE4, 0x10] (fun m => { m with x := 0xFF }) [(0x0010, 0x01)] 3 fun t => t.m.x == 0xFF && t.m.pushedP false == 0xA1,
  runsM [0xCC, 0x34, 0x12] (fun m => { m with y := 0x01 }) [(0x1234, 0x02)] 4 fun t => t.m.y == 0x01 && t.m.pushedP false == 0xA0,
  runsM [0xFE, 0xFF, 0x12] (fun m => { m with x := 0x01, fc := true }) [(0x1300, 0x7F)] 7 fun t => t.ramByte 0x1300 == 0x80 && t.m.pushedP false == 0xA1,
  runsM [0xD6, 0x10] (fun m => { m with x := 0xF0 }) [(0x0000, 0x01)] 6 fun t => t.ramByte 0x0000 == 0x00 && t.m.pushedP false == 0x22,
  runsM [0xE8] (fun m => { m with x := 0xFF }) [] 2 fun t => t.m.x == 0x00 && t.m.pushedP false == 0x22,
  runsM [0x88] (fun m => { m with y := 0x80 }) [] 2 fun t => t.m.y == 0x7F && t.m.pushedP false == 0x20,
  runsM [0x06, 0x10] id [(0x0010, 0xC0)] 5 fun t => t.ramByte 0x0010 == 0x80 && t.m.pushedP false == 0xA1,
  runsM [0x0A] (fun m => { m with a := 0x80 }) [] 2 fun t => t.m.a == 0x00 && t.m.pushedP false == 0x23,
  runsM [0x4E, 0x34, 0x12] (fun m => { m with fn := true }) [(0x1234, 0xFF)] 6 fun t => t.ramByte 0x1234 == 0x7F && t.m.pushedP false == 0x21,
  runsM [0x2A] (fun m => { m with a := 0x40, fc := true }) [] 2 fun t => t.m.a == 0x81 && t.m.pushedP false == 0xA0].all id) = true := by decide +kernel

theorem test_vectors_m6502_6 : ([
  runsM [0x36, 0x10] (fun m => { m with x := 0x01 }) [(0x0011, 0x80)] 6 fun t => t.ramByte 0x0011 == 0x00 && t.m.pushedP false == 0x23,
  runsM [0x6A] (fun m => { m with a := 0x00, fc := true }) [] 2 fun t => t.m.a == 0x80 && t.m.pushedP false == 0xA0,
  runsM [0x7E, 0xFF, 0x12] (fun m => { m with x := 0x01 }) [(0x1300, 0x01)] 7 fun t => t.ramByte 0x1300 == 0x00 && t.m.pushedP false == 0x23,
  runsM [0x4C, 0x34, 0x12] id [] 3 fun t => t.m.pc == 0x1234,
  runsM [0x6C, 0x80, 0x12] id [(0x1280, 0x34), (0x1281, 0x56)] 5 fun t => t.m.pc == 0x5634,
  runsM [0x6C, 0xFF, 0x12] id [(0x12FF, 0x34), (0x1200, 0x56), (0x1300, 0x78)] 5 fun t => t.m.pc == 0x5634,
  runsM [0x20, 0x00, 0x90] (fun m => { m with s := 0x00 }) [] 6 fun t => t.m.pc == 0x9000 && t.m.s == 0xFE && t.ramByte 0x0100 == 0x80 && t.ramByte 0x01FF == 0x02,
  runsM [0x60] (fun m => { m with s := 0xFD }) [(0x01FE, 0xFF), (0x01FF, 0xFF)] 6 fun t => t.m.pc == 0x0000 && t.m.s == 0xFF,
  runsM [0xD0, 0xFD] (fun m => { m with pc := 0x80FE }) [] 4 fun t => t.m.pc == 0x80FD,
  runsM [0xD0, 0x20] (fun m => { m with pc := 0x80EE }) [] 4 fun t => t.m.pc == 0x8110,
  runsM [0xD0, 0x00] (fun m => { m with pc := 0x80FE }) [] 3 fun t => t.m.pc == 0x8100,
  runsM [0xF0, 0x80] (fun m => { m with fz := true }) [] 4 fun t => t.m.pc == 0x7F82].all id) = true := by decide +kernel

theorem test_vectors_m6502_7 : ([
  runsM [0xD0, 0xFE] id [] 3 fun t => t.m.pc == 0x8000,
  runsM [0x90, 0x10] (fun m => { m with pc := 0xFFFF }) [] 3 fun t => t.m.pc == 0x0011,
  runsM [0xEA] (fun m => { m with fn := true, fz := true }) [] 2 fun t => t.m.pc == 0x8001 && t.m.pushedP false == 0xA2,
  runsM [0x00] (fun m => { m with fn := true, fd := true, fc := true }) [(0xFFFE, 0x00), (0xFFFF, 0x90)] 7 fun t => t.m.pc == 0x9000 && t.m.s == 0xFA && t.ramByte 0x01FD == 0x80 && t.ramByte 0x01FC == 0x02 && t.ramByte 0x01FB == 0xB9 && t.m.pushedP false == 0xAD,
  runsM [0x00] (fun m => { m with fi := true }) [(0xFFFE, 0x00), (0xFFFF, 0x90)] 7 fun t => t.m.pc == 0x9000 && t.m.s == 0xFA && t.ramByte 0x01FB == 0x34 && t.m.pushedP false == 0x24,
  runsM [0x40] (fun m => { m with s := 0xFA }) [(0x01FB, 0xFF), (0x01FC, 0x02), (0x01FD, 0x80)] 6 fun t => t.m.pc == 0x8002 && t.m.s == 0xFD && t.m.pushedP false == 0xEF,
  runsM [0x40] (fun m => { m with s := 0xFE, fn := true, fv := true, fd := true, fi := true, fz := true, fc := true }) [(0x01FF, 0x00), (0x0100, 0x34), (0x0101, 0x12)] 6 fun t => t.m.pc == 0x1234 && t.m.s == 0x01 && t.m.pushedP false == 0x20,
  runsM [0x02] id [] 2 fun t => t.m.pc == 0x8001 && t.m.a == 0x00 && t.m.pushedP false == 0x20,
  runsM [0x80, 0x55] id [] 2 fun t => t.m.pc == 0x8001,
  runsM [0xFF] id [] 2 fun t => t.m.pc == 0x8001].all id) = true := by decide +kernel

end Sys2Proof.Tests
end

/-! What a CPU can do to the machine, said once for both variants: `CpuRuns s c t`, one rule per shared operation, and
`exec_completes`, which says of each instruction that it answers a next state so reached. An invariant of every instruction is then
an induction over the rules of `CpuRuns`. -/
section
namespace Sys2Proof.Machine

variable {s t u : State} {c : Cpu}

/-- From `s` the CPU of variant `c` comes to the state given, by accesses through the hooks (spec/20_memory.md R131, R133), changes of
its own record, outputs, and steps of the counter that feeds the free values. -/
inductive CpuRuns (s : State) : Cpu → State → Prop
  | refl {c : Cpu} : CpuRuns s c s
  | onZ {t : State} (h : CpuRuns s .z80 t) (f : Z80 → Z80) : CpuRuns s .z80 (t.onZ f)
  | onM {t : State} (h : CpuRuns s .m6502 t) (f : M6502 → M6502) : CpuRuns s .m6502 (t.onM f)
  | emit {c : Cpu} {t : State} (h : CpuRuns s c t) (e : Event) : CpuRuns s c (t.emit e)
  | tick {c : Cpu} {t : State} (h : CpuRuns s c t) : CpuRuns s c { t with tick := t.tick + 1 }
  | read {c : Cpu} {t : State} (h : CpuRuns s c t) (a : Word) : CpuRuns s c (memRead a t).2
  | write {c : Cpu} {t : State} (h : CpuRuns s c t) (a : Word) (v : Byte) : CpuRuns s c (memWrite a v t)
  | input {c : Cpu} {t : State} (h : CpuRuns s c t) (p : Word) : CpuRuns s c (portIn p t).2
  | output {c : Cpu} {t : State} (h : CpuRuns s c t) (p : Word) (v : Byte) : CpuRuns s c (portOut p v t)

/-- A choice between two runs is a run. -/
theorem CpuRuns.choice {p : Prop} [Decidable p] (ht : CpuRuns s c t) (hu : CpuRuns s c u) : CpuRuns s c (if p then t else u) := by
  split
  · exact ht
  · exact hu

/-! ## The shared operations -/

theorem cycZ_runs (h : CpuRuns s .z80 t) (n : Nat) : CpuRuns s .z80 (cycZ n t) := h.onZ _

theorem cycM_runs (h : CpuRuns s .m6502 t) (n : Nat) : CpuRuns s .m6502 (cycM n t) := h.onM _

theorem jumpZ_runs (h : CpuRuns s .z80 t) (a : Word) : CpuRuns s .z80 (jumpZ a t) := h.onZ _

theorem memRead16_runs (h : CpuRuns s c t) (a : Word) : CpuRuns s c (memRead16 a t).2 := (h.read a).read (a + 1)

theorem memWrite16_runs (h : CpuRuns s c t) (a v : Word) : CpuRuns s c (memWrite16 a v t) := (h.write a _).write (a + 1) _

theorem pushZ_runs (h : CpuRuns s .z80 t) (v : Word) : CpuRuns s .z80 (pushZ v t) := (((h.onZ _).write _ _).onZ _).write _ _

theorem popZ8_runs (h : CpuRuns s .z80 t) : CpuRuns s .z80 (popZ8 t).2 := by
  simp only [popZ8]
  exact (h.read _).onZ _

theorem popZ_runs (h : CpuRuns s .z80 t) : CpuRuns s .z80 (popZ t).2 := popZ8_runs (popZ8_runs h)

theorem pushM_runs (h : CpuRuns s .m6502 t) (v : Byte) : CpuRuns s .m6502 (pushM v t) := (h.write _ _).onM _

theorem pushM16_runs (h : CpuRuns s .m6502 t) (v : Word) : CpuRuns s .m6502 (pushM16 v t) := pushM_runs (pushM_runs h _) _

theorem pullM_runs (h : CpuRuns s .m6502 t) : CpuRuns s .m6502 (pullM t).2 := (h.onM _).read _

theorem pullM16_runs (h : CpuRuns s .m6502 t) : CpuRuns s .m6502 (pullM16 t).2 := pullM_runs (pullM_runs h)

theorem entryZ_runs (h : CpuRuns s .z80 t) (keepIff2 : Bool) : CpuRuns s .z80 (entryZ keepIff2 t) := pushZ_runs (h.onZ _) _

theorem nmiEntry_runs (h : CpuRuns s .z80 t) : CpuRuns s .z80 (nmiEntry t) := cycZ_runs (jumpZ_runs (entryZ_runs h _) _) _

/-- A maskable entry of any mode, where it is not refused (R833 to R836). -/
theorem intEntry_runs {v : Byte} (h : intEntry v s = .ok t) : CpuRuns s .z80 t := by
  unfold intEntry at h
  split at h
  · split at h
    · cases h
      exact cycZ_runs (jumpZ_runs (entryZ_runs .refl _) _) _
    · cases h
  · cases h
    exact cycZ_runs (jumpZ_runs (entryZ_runs .refl _) _) _
  · cases h
    exact cycZ_runs (jumpZ_runs (memRead16_runs (entryZ_runs .refl _) _) _) _

theorem vectorM_runs (h : CpuRuns s .m6502 t) (ret : Word) (b : Bool) (vec : Word) : CpuRuns s .m6502 (vectorM ret b vec t) := by
  unfold vectorM
  exact (memRead16_runs ((pushM_runs (pushM16_runs h _) _).onM _) _).onM _

theorem entry6502_runs (h : CpuRuns s .m6502 t) (vec : Word) : CpuRuns s .m6502 (entry6502 vec t) :=
  cycM_runs (vectorM_runs h _ _ _) _

theorem popPC_runs (h : CpuRuns s .z80 t) : CpuRuns s .z80 (popPC t) := jumpZ_runs (popZ_runs h) _

theorem returnZ_runs (h : CpuRuns s .z80 t) : CpuRuns s .z80 (returnZ t) := (popPC_runs h).onZ _

theorem returnM_runs (h : CpuRuns s .m6502 t) : CpuRuns s .m6502 (returnM t) := by
  unfold returnM
  exact (pullM16_runs ((pullM_runs h).onM _)).onM _

theorem illegalHook_runs (h : CpuRuns s c t) (a : Word) (bytes : List Byte) : CpuRuns s c (illegalHook a bytes t) :=
  .choice (h.emit _) h

theorem modifyZ_runs (h : CpuRuns s .z80 t) (a : Word) (op : Byte → Byte → Byte × Byte) : CpuRuns s .z80 (modifyZ a op t) := by
  unfold modifyZ
  exact ((h.read a).write a _).onZ _

theorem exchangeSP_runs (h : CpuRuns s .z80 t) (v : Word) : CpuRuns s .z80 (exchangeSP v t).2 :=
  ((memRead16_runs h _).write _ _).write _ _

theorem blockLoad_runs (h : CpuRuns s .z80 t) (d : Word) : CpuRuns s .z80 (blockLoad d t) := by
  unfold blockLoad
  exact ((h.read _).write _ _).onZ _

theorem blockCompare_runs (h : CpuRuns s .z80 t) (d : Word) : CpuRuns s .z80 (blockCompare d t) := by
  unfold blockCompare
  exact (h.read _).onZ _

theorem blockIn_runs (h : CpuRuns s .z80 t) (d : Word) (j : Byte) : CpuRuns s .z80 (blockIn d j t) := by
  unfold blockIn
  exact ((h.input _).write _ _).onZ _

theorem blockOut_runs (h : CpuRuns s .z80 t) (d : Word) : CpuRuns s .z80 (blockOut d t) := by
  unfold blockOut
  exact (((h.read _).onZ _).output _ _).onZ _

theorem repeatIf_runs (h : CpuRuns s .z80 t) (test : Z80 → Bool) : CpuRuns s .z80 (repeatIf test t) :=
  .choice (cycZ_runs (jumpZ_runs h _) _) h

theorem decimalRotate_runs (h : CpuRuns s .z80 t) (op : Byte → Byte → Byte × Byte) : CpuRuns s .z80 (decimalRotate op t) := by
  unfold decimalRotate
  exact ((h.read _).write _ _).onZ _

theorem zeroPagePointer_runs (h : CpuRuns s c t) (b : Byte) : CpuRuns s c (zeroPagePointer b t).2 := (h.read _).read _

/-- Only the two indirect modes read memory to form an address (R552, R553). -/
theorem addressOf_runs (h : CpuRuns s c t) (mode : AddrMode) : CpuRuns s c (addressOf mode t).2 := by
  cases mode with
  | izx b => exact zeroPagePointer_runs h _
  | izy b => exact zeroPagePointer_runs h _
  | zp b | zpx b | zpy b | abs a | abx a | aby a => exact h

theorem readM_runs (h : CpuRuns s .m6502 t) (mode : AddrMode) (f : Byte → M6502 → M6502) : CpuRuns s .m6502 (readM mode f t) :=
  have ha := addressOf_runs h mode
  ((CpuRuns.choice (cycM_runs ha _) ha).read _).onM _

theorem storeM_runs (h : CpuRuns s .m6502 t) (mode : AddrMode) (v : M6502 → Byte) : CpuRuns s .m6502 (storeM mode v t) :=
  (addressOf_runs h mode).write _ _

theorem modifyM_runs (h : CpuRuns s .m6502 t) (mode : AddrMode) (op : Byte → M6502 → Byte × M6502) :
    CpuRuns s .m6502 (modifyM mode op t) := by
  unfold modifyM
  exact (((addressOf_runs h mode).read _).write _ _).onM _

theorem branchM_runs (h : CpuRuns s .m6502 t) (cond : Bool) (b : Byte) : CpuRuns s .m6502 (branchM cond b t) :=
  .choice ((cycM_runs h _).onM _) h

theorem indirectTarget_runs (h : CpuRuns s c t) (ptr : Word) : CpuRuns s c (indirectTarget ptr t).2 := (h.read _).read _

/-- A fetch is a run of reads (R132). -/
theorem fetchFrom_runs (h : CpuRuns s c t) (cpu : Cpu) (pc : Word) (n : Nat) (bytes : List Byte) :
    CpuRuns s c (fetchFrom cpu pc n bytes t).2 := by
  induction n generalizing bytes t with
  | zero => exact h
  | succ n ih =>
    simp only [fetchFrom]
    split
    · exact h.read _
    · exact ih (h.read _) _

theorem fetch_runs (h : CpuRuns s c t) : CpuRuns s c (fetch t).2 := fetchFrom_runs h _ _ _ _

/-! ## The instructions -/

/-- The result `r` is a next state that the CPU of variant `c` comes to from `s`. -/
def Completes (s : State) (c : Cpu) (r : Result) : Prop := ∃ t, r = .next t ∧ CpuRuns s c t

theorem Completes.next (h : CpuRuns s c t) : Completes s c (.next t) := ⟨t, rfl, h⟩

theorem Completes.runs {r : Result} (h : Completes s c r) (hr : r = .next t) : CpuRuns s c t := by
  obtain ⟨u, hu, hrun⟩ := h
  cases hu.symm.trans hr
  exact hrun

theorem regsZ_completes (f : Z80 → Z80) : Completes s .z80 (regsZ f s) := .next (.onZ .refl f)

theorem regsM_completes (f : M6502 → M6502) : Completes s .m6502 (regsM f s) := .next (.onM .refl f)

theorem loadZ_completes (a : Word) (f : Byte → Z80 → Z80) : Completes s .z80 (loadZ a f s) := .next ((CpuRuns.refl.read a).onZ _)

theorem loadZ16_completes (a : Word) (f : Word → Z80 → Z80) : Completes s .z80 (loadZ16 a f s) :=
  .next ((memRead16_runs .refl a).onZ _)

theorem inputC_completes (f : Byte → Z80 → Z80) : Completes s .z80 (inputC f s) := .next ((CpuRuns.refl.input _).onZ _)

theorem modifyCopy_completes (xy : XYReg) (d : Byte) (r : Reg8) (op : Byte → Byte → Byte × Byte) :
    Completes s .z80 (modifyCopy xy d r op s) :=
  .next (((CpuRuns.refl.read _).write _ _).onZ _)

theorem bitIndexed_completes (xy : XYReg) (d : Byte) (b : BitVec 3) : Completes s .z80 (bitIndexed xy d b s) := by
  unfold bitIndexed
  exact loadZ_completes _ _

/-- An undocumented encoding runs its meaning or the illegal-opcode policy (R184, R500). -/
theorem undocumented_completes {i : Instr} {meaning : State → Result} (h : Completes s c (meaning s)) :
    Completes s c (undocumented i meaning s) := by
  unfold undocumented
  split
  · exact h
  · exact .next (illegalHook_runs .refl _ _)

/-- Every instruction answers a next state, which the CPU of its own variant comes to: one arm per form its meaning has
(spec/40_z80_load.md to spec/47_m6502_b.md). -/
theorem exec_completes : ∀ i : Instr, Completes s i.cpu (exec i s)
  | .zNop .. | .zPrefix .. | .zPrefixPrefix .. => .next .refl
  | .zAddHlSs .. | .zIncSs .. | .zDecSs .. | .zIncR .. | .zDecR .. | .zDaa .. | .zCpl .. | .zScf .. | .zCcf .. | .zAddAR ..
  | .zAddAN .. | .zAdcAR .. | .zAdcAN .. | .zSubR .. | .zSubN .. | .zSbcAR .. | .zSbcAN .. | .zAndR .. | .zAndN .. | .zXorR ..
  | .zXorN .. | .zOrR .. | .zOrN .. | .zCpR .. | .zCpN .. | .zSbcHlSs .. | .zAdcHlSs .. | .zNeg .. | .zAddXyPp .. | .zIncXy ..
  | .zDecXy .. | .zHalt .. | .zDi .. | .zEi .. | .zIm0 .. | .zIm1 .. | .zIm2 .. | .zExAfAf .. | .zLdDdNn .. | .zLdRN ..
  | .zLdRR .. | .zExx .. | .zLdSpHl .. | .zExDeHl .. | .zLdIA .. | .zLdRA .. | .zLdAI .. | .zLdAR .. | .zLdXyNn ..
  | .zLdSpXy .. | .zRlca .. | .zRrca .. | .zRla .. | .zRra .. | .zRlcR .. | .zRrcR .. | .zRlR .. | .zRrR .. | .zSlaR ..
  | .zSraR .. | .zSrlR .. | .zBitBR .. | .zResBR .. | .zSetBR .. => regsZ_completes _
  | .zSllR .. | .zNegCopy .. | .zIm0Copy4E .. | .zIm0Copy66 .. | .zIm0Copy6E .. | .zIm1Copy .. | .zIm2Copy .. | .zIncXyHalf ..
  | .zDecXyHalf .. | .zLdXyHalfN .. | .zLdXyHalfR .. | .zLdRXyHalf .. | .zAddAXyHalf .. | .zAdcAXyHalf .. | .zSubXyHalf ..
  | .zSbcAXyHalf .. | .zAndXyHalf .. | .zXorXyHalf .. | .zOrXyHalf .. | .zCpXyHalf .. =>
    undocumented_completes (regsZ_completes _)
  | .zAddAMemHl .. | .zAdcAMemHl .. | .zSubMemHl .. | .zSbcAMemHl .. | .zAndMemHl .. | .zXorMemHl .. | .zOrMemHl ..
  | .zCpMemHl .. | .zAddAMemXy .. | .zAdcAMemXy .. | .zSubMemXy .. | .zSbcAMemXy .. | .zAndMemXy .. | .zXorMemXy ..
  | .zOrMemXy .. | .zCpMemXy .. | .zLdAMemBc .. | .zLdAMemDe .. | .zLdAMemNn .. | .zLdRMemHl .. | .zLdRMemXy .. =>
    loadZ_completes _ _
  | .zBitBMemXy .. => bitIndexed_completes _ _ _
  | .zBitBMemXyZ .. => undocumented_completes (bitIndexed_completes _ _ _)
  | .zBitBMemHl .. => .next ((CpuRuns.refl.read _).tick.onZ _)
  | .zLdHlMemNn .. | .zLdDdMemNn .. | .zLdXyMemNn .. => loadZ16_completes _ _
  | .zLdMemBcA .. | .zLdMemDeA .. | .zLdMemNnA .. | .zLdMemHlN .. | .zLdMemHlR .. | .zLdMemXyN .. | .zLdMemXyR .. =>
    .next (CpuRuns.refl.write _ _)
  | .zLdMemNnHl .. | .zLdMemNnDd .. | .zLdMemNnXy .. => .next (memWrite16_runs .refl _ _)
  | .zIncMemHl .. | .zDecMemHl .. | .zIncMemXy .. | .zDecMemXy .. | .zRlcMemHl .. | .zRrcMemHl .. | .zRlMemHl .. | .zRrMemHl ..
  | .zSlaMemHl .. | .zSraMemHl .. | .zSrlMemHl .. | .zResBMemHl .. | .zSetBMemHl .. | .zRlcMemXy .. | .zRrcMemXy ..
  | .zRlMemXy .. | .zRrMemXy .. | .zSlaMemXy .. | .zSraMemXy .. | .zSrlMemXy .. | .zResBMemXy .. | .zSetBMemXy .. =>
    .next (modifyZ_runs .refl _ _)
  | .zSllMemHl .. =>
    undocumented_completes (meaning := fun s => .next (modifyZ s.z.hl (rotateM .sll) s)) (.next (modifyZ_runs .refl _ _))
  | .zSllMemXy xy d =>
    undocumented_completes (meaning := fun s => .next (modifyZ (s.z.ea xy d) (rotateM .sll) s)) (.next (modifyZ_runs .refl _ _))
  | .zRotMemXyR .. | .zResBMemXyR .. | .zSetBMemXyR .. => undocumented_completes (modifyCopy_completes _ _ _ _)
  | .zRrd .. | .zRld .. => .next (decimalRotate_runs .refl _)
  | .zPushQq .. | .zPushXy .. => .next (pushZ_runs .refl _)
  | .zPopQq .. | .zPopXy .. => .next ((popZ_runs .refl).onZ _)
  | .zExMemSpHl .. | .zExMemSpXy .. => .next ((exchangeSP_runs .refl _).onZ _)
  | .zJr .. | .zJpHl .. | .zJpNn .. | .zJpXy .. => .next (jumpZ_runs .refl _)
  | .zJpCcNn .. => .next (.choice (jumpZ_runs .refl _) .refl)
  | .zJrCc .. => .next (.choice (cycZ_runs (jumpZ_runs .refl _) _) .refl)
  | .zDjnz .. => .next (.choice (.onZ .refl _) (cycZ_runs (jumpZ_runs (.onZ .refl _) _) _))
  | .zCallNn .. | .zRst .. => .next (jumpZ_runs (pushZ_runs .refl _) _)
  | .zCallCcNn .. => .next (.choice (cycZ_runs (jumpZ_runs (pushZ_runs .refl _) _) _) .refl)
  | .zRet .. => .next (popPC_runs .refl)
  | .zRetCc .. => .next (.choice (cycZ_runs (popPC_runs .refl) _) .refl)
  | .zRetn .. | .zReti .. => .next (returnZ_runs .refl)
  | .zRetnCopy .. => undocumented_completes (meaning := fun s => .next (returnZ s)) (.next (returnZ_runs .refl))
  | .zIllegalEd .. => .next (illegalHook_runs .refl _ _)
  | .zInAN .. | .zInRC .. => .next ((CpuRuns.refl.input _).onZ _)
  | .zInFC .. => undocumented_completes (inputC_completes _)
  | .zOutNA .. | .zOutCR .. => .next (CpuRuns.refl.output _ _)
  | .zOutC0 .. => undocumented_completes (meaning := fun s => .next (portOut s.z.bc 0x00 s)) (.next (CpuRuns.refl.output _ _))
  | .zLdi .. | .zLdd .. => .next (blockLoad_runs .refl _)
  | .zCpi .. | .zCpd .. => .next (blockCompare_runs .refl _)
  | .zIni .. | .zInd .. => .next (blockIn_runs .refl _ _)
  | .zOuti .. | .zOutd .. => .next (blockOut_runs .refl _)
  | .zLdir .. | .zLddr .. => .next (repeatIf_runs (blockLoad_runs .refl _) _)
  | .zCpir .. | .zCpdr .. => .next (repeatIf_runs (blockCompare_runs .refl _) _)
  | .zInir .. | .zIndr .. => .next (repeatIf_runs (blockIn_runs .refl _ _) _)
  | .zOtir .. | .zOtdr .. => .next (repeatIf_runs (blockOut_runs .refl _) _)
  | .mNop .. => .next .refl
  | .mOraImm .. | .mAndImm .. | .mEorImm .. | .mAdcImm .. | .mDey .. | .mTxa .. | .mTya .. | .mTxs .. | .mLdyImm ..
  | .mLdxImm .. | .mTay .. | .mLdaImm .. | .mTax .. | .mTsx .. | .mCpyImm .. | .mIny .. | .mCmpImm .. | .mDex .. | .mCpxImm ..
  | .mInx .. | .mSbcImm .. | .mAslA .. | .mClc .. | .mRolA .. | .mSec .. | .mLsrA .. | .mJmpAbs .. | .mCli .. | .mRorA ..
  | .mSei .. | .mClv .. | .mCld .. | .mSed .. => regsM_completes _
  | .mOraIzx .. | .mOraZp .. | .mOraAbs .. | .mOraIzy .. | .mOraZpX .. | .mOraAbsY .. | .mOraAbsX .. | .mAndIzx .. | .mBitZp ..
  | .mAndZp .. | .mBitAbs .. | .mAndAbs .. | .mAndIzy .. | .mAndZpX .. | .mAndAbsY .. | .mAndAbsX .. | .mEorIzx .. | .mEorZp ..
  | .mEorAbs .. | .mEorIzy .. | .mEorZpX .. | .mEorAbsY .. | .mEorAbsX .. | .mAdcIzx .. | .mAdcZp .. | .mAdcAbs ..
  | .mAdcIzy .. | .mAdcZpX .. | .mAdcAbsY .. | .mAdcAbsX .. | .mLdaIzx .. | .mLdyZp .. | .mLdaZp .. | .mLdxZp .. | .mLdyAbs ..
  | .mLdaAbs .. | .mLdxAbs .. | .mLdaIzy .. | .mLdyZpX .. | .mLdaZpX .. | .mLdxZpY .. | .mLdaAbsY .. | .mLdyAbsX ..
  | .mLdaAbsX .. | .mLdxAbsY .. | .mCmpIzx .. | .mCpyZp .. | .mCmpZp .. | .mCpyAbs .. | .mCmpAbs .. | .mCmpIzy .. | .mCmpZpX ..
  | .mCmpAbsY .. | .mCmpAbsX .. | .mSbcIzx .. | .mCpxZp .. | .mSbcZp .. | .mCpxAbs .. | .mSbcAbs .. | .mSbcIzy .. | .mSbcZpX ..
  | .mSbcAbsY .. | .mSbcAbsX .. => .next (readM_runs .refl _ _)
  | .mStaIzx .. | .mStyZp .. | .mStaZp .. | .mStxZp .. | .mStyAbs .. | .mStaAbs .. | .mStxAbs .. | .mStaIzy .. | .mStyZpX ..
  | .mStaZpX .. | .mStxZpY .. | .mStaAbsY .. | .mStaAbsX .. => .next (storeM_runs .refl _ _)
  | .mDecZp .. | .mDecAbs .. | .mDecZpX .. | .mDecAbsX .. | .mIncZp .. | .mIncAbs .. | .mIncZpX .. | .mIncAbsX .. | .mAslZp ..
  | .mAslAbs .. | .mAslZpX .. | .mAslAbsX .. | .mRolZp .. | .mRolAbs .. | .mRolZpX .. | .mRolAbsX .. | .mLsrZp .. | .mLsrAbs ..
  | .mLsrZpX .. | .mLsrAbsX .. | .mRorZp .. | .mRorAbs .. | .mRorZpX .. | .mRorAbsX .. => .next (modifyM_runs .refl _ _)
  | .mPhp .. | .mPha .. => .next (pushM_runs .refl _)
  | .mPlp .. | .mPla .. => .next ((pullM_runs .refl).onM _)
  | .mBpl .. | .mBmi .. | .mBvc .. | .mBvs .. | .mBcc .. | .mBcs .. | .mBne .. | .mBeq .. => .next (branchM_runs .refl _ _)
  | .mJmpInd .. => .next ((indirectTarget_runs .refl _).onM _)
  | .mJsr .. => .next ((pushM16_runs .refl _).onM _)
  | .mRts .. => .next ((pullM16_runs .refl).onM _)
  | .mBrk .. => .next (vectorM_runs .refl _ _ _)
  | .mRti .. => .next (returnM_runs .refl)
  | .mIllegal .. => .next (illegalHook_runs .refl _ _)

end Sys2Proof.Machine
end

/-! The VDP stays legal under everything that writes it: register writes, the two ports, a scanline, `Reset` (spec/10_state.md R54 to
R68). -/
section
namespace Sys2Proof.Machine

variable {cfg : Config} {v : Vdp} {s : State}

/-! ## Registers and derived fields -/

/-- Every register code is one of eight. -/
theorem regCode_cases (n : BitVec 3) : n = 0 ∨ n = 1 ∨ n = 2 ∨ n = 3 ∨ n = 4 ∨ n = 5 ∨ n = 6 ∨ n = 7 := by
  revert n
  decide

/-- Masking a bank masks the register last written (R692). -/
theorem masked_set (r : VdpRegs) (n : BitVec 3) (b : Byte) : (r.set n b).masked = r.masked.set n (b &&& regMask n) := by
  rcases regCode_cases n with rfl | rfl | rfl | rfl | rfl | rfl | rfl | rfl <;> rfl

/-- Masking twice is masking once: a masked bank holds legal bits only (R54). -/
theorem masked_legal (r : VdpRegs) : VdpLegalBits r.masked := by
  simp only [VdpLegalBits, VdpRegs.masked, BitVec.and_assoc, BitVec.and_self]

/-- A masked byte stored in a register keeps the bank legal (R693). -/
theorem VdpLegalBits.set {r : VdpRegs} (h : VdpLegalBits r) (n : BitVec 3) (b : Byte) :
    VdpLegalBits (r.set n (b &&& regMask n)) := by
  unfold VdpLegalBits at h ⊢
  rw [masked_set, ← h, BitVec.and_assoc, BitVec.and_self]

/-- Only a write of `VR7` reaches `VR7` (R693). -/
theorem set_r7 (r : VdpRegs) (n : BitVec 3) (b : Byte) : (r.set n b).r7 = if n = 7 then b else r.r7 := by
  rcases regCode_cases n with rfl | rfl | rfl | rfl | rfl | rfl | rfl | rfl <;> rfl

/-- A register write brings the derived fields up to date: those of `VR0` to `VR6` by the refresh, the colour pair with `VR7`
(R694, R705). -/
theorem storeRegister_coherent (h : VdpCoherent cfg v) (n : BitVec 3) (b : Byte) :
    VdpCoherent cfg (Vdp.storeRegister cfg n b v) := by
  obtain ⟨hmode, htab, hfg, hbg⟩ := h
  unfold Vdp.storeRegister
  split
  next hn =>
    subst hn
    exact ⟨hmode, htab, rfl, rfl⟩
  next hn =>
    have hr7 : (v.regs.set n (b &&& regMask n)).r7 = v.regs.r7 := by rw [set_r7, if_neg hn]
    exact ⟨rfl, rfl, by simpa only [Vdp.refresh, hr7] using hfg, by simpa only [Vdp.refresh, hr7] using hbg⟩

@[simp] theorem storeRegister_fb (cfg : Config) (n : BitVec 3) (b : Byte) (v : Vdp) : (Vdp.storeRegister cfg n b v).fb = v.fb := by
  unfold Vdp.storeRegister
  split <;> rfl

@[simp] theorem storeRegister_curline (cfg : Config) (n : BitVec 3) (b : Byte) (v : Vdp) :
    (Vdp.storeRegister cfg n b v).curline = v.curline := by
  unfold Vdp.storeRegister
  split <;> rfl

@[simp] theorem storeRegister_regs (cfg : Config) (n : BitVec 3) (b : Byte) (v : Vdp) :
    (Vdp.storeRegister cfg n b v).regs = v.regs.set n (b &&& regMask n) := by
  unfold Vdp.storeRegister
  split <;> rfl

theorem storeRegister_legal (h : VdpLegal cfg v) (n : BitVec 3) (b : Byte) : VdpLegal cfg (Vdp.storeRegister cfg n b v) := by
  obtain ⟨hbits, hcoherent, hfb, hline⟩ := h
  refine ⟨?_, storeRegister_coherent hcoherent n b, ?_, ?_⟩
  · rw [storeRegister_regs]
    exact hbits.set n b
  · rwa [storeRegister_fb]
  · rwa [storeRegister_curline]

/-! ## The ports -/

theorem writeRegister_legal (h : VdpLegal s.cfg s.vdp) (index value : Byte) :
    VdpLegal s.cfg (writeRegister index value s).2.vdp := by
  have hv : (writeRegister index value s).2.vdp = Vdp.storeRegister s.cfg (index.extractLsb' 0 3) value s.vdp := by
    simp only [writeRegister]
    split <;> rfl
  rw [hv]
  exact storeRegister_legal h _ _

/-- The control port writes a register, or fields no legality condition is about (R710 to R714). -/
theorem writeControlPort_legal (h : VdpLegal s.cfg s.vdp) (b : Byte) : VdpLegal s.cfg (writeControlPort b s).2.vdp := by
  unfold writeControlPort
  split
  · exact h
  · split
    · exact h
    · exact h
    · exact writeRegister_legal (s := s.onVdp fun v => { v with flipflop := .expectLowOrData }) h _ _

theorem runCall_legal (h : VdpLegal s.cfg s.vdp) (c : CoreCall) : VdpLegal s.cfg (runCall c s).vdp := by
  cases c with
  | inject r => simpa [runCall] using h
  | writeControlPort b => simpa [runCall] using writeControlPort_legal h b
  | readControlPort => exact h
  | writeDataPort b => exact h
  | readDataPort => exact h

/-! ## Scanlines -/

@[simp] theorem paintSprite_length (v : Vdp) (i y x : Nat) (row : List Pixel) : (paintSprite v i y x row).length = row.length := by
  induction row generalizing x with
  | nil => rfl
  | cons p rest ih => simp [paintSprite, ih]

@[simp] theorem compositeLine_length (v : Vdp) (y : Nat) (mask : BitVec 32) (k : Nat) (row : List Pixel) :
    (compositeLine v y mask k row).length = row.length := by
  induction k generalizing row with
  | zero => rfl
  | succ k ih =>
    rw [compositeLine, ih]
    split
    · exact paintSprite_length ..
    · rfl

@[simp] theorem pixelRow_length (f : Nat → Pixel) : (pixelRow f).length = 256 := by simp [pixelRow]

/-- A row of the right length leaves the framebuffer whole, wherever it is put (R67). -/
theorem FrameShape.set {fb : List (List Pixel)} (h : FrameShape fb) (y : Nat) {row : List Pixel} (hrow : row.length = 256) :
    FrameShape (fb.set y row) := by
  obtain ⟨hrows, hwidth⟩ := h
  refine ⟨by simpa using hrows, fun r hr => ?_⟩
  rcases List.mem_or_eq_of_mem_set hr with hr | rfl
  · exact hwidth r hr
  · exact hrow

/-- The scan changes the status byte only (R770). -/
theorem scanLine_legal (h : VdpLegal cfg v) (y : Nat) : VdpLegal cfg (scanLine cfg y v).2 := h

theorem renderLine_legal (h : VdpLegal cfg v) (y : Nat) : VdpLegal cfg (renderLine cfg y v) := by
  have hscan : VdpLegal cfg (if v.mode = .text then (0, v) else scanLine cfg y v).2 := by
    split
    · exact h
    · exact scanLine_legal h y
  obtain ⟨hbits, hcoherent, hfb, hline⟩ := hscan
  refine ⟨hbits, hcoherent, hfb.set y ?_, hline⟩
  split
  · rw [compositeLine_length, pixelRow_length]
  · exact pixelRow_length _

/-- The next line is inside the frame (R755). -/
theorem nextLine_lt (h : cfg.wf = true) (l : Nat) : nextLine cfg l < cfg.totalLines := by
  simp only [Config.wf, Bool.and_eq_true, decide_eq_true_eq] at h
  exact Nat.mod_lt _ (by omega)

theorem VdpLegal.atLine (h : VdpLegal cfg v) {l : Nat} (hl : l < cfg.totalLines) : VdpLegal cfg { v with curline := l } := by
  obtain ⟨hbits, hcoherent, hfb, -⟩ := h
  exact ⟨hbits, hcoherent, hfb, hl⟩

theorem stepScanline_legal (hwf : s.cfg.wf = true) (h : VdpLegal s.cfg s.vdp) : VdpLegal s.cfg (stepScanline s).2.vdp := by
  have hnext := nextLine_lt hwf s.vdp.curline
  unfold stepScanline
  dsimp only
  split
  · exact (renderLine_legal h _).atLine hnext
  · split
    · exact VdpLegal.atLine (v := s.vdp.vblank) h hnext
    · exact h.atLine hnext

/-! ## Reset -/

theorem vdpReset_legal (hwf : cfg.wf = true) : VdpLegal cfg (Vdp.reset cfg) := by
  refine ⟨masked_legal _, ⟨rfl, rfl, rfl, rfl⟩, ⟨List.length_replicate, fun row hrow => ?_⟩, ?_⟩
  · rw [List.eq_of_mem_replicate hrow]
    exact List.length_replicate
  · simp only [Config.wf, Bool.and_eq_true, decide_eq_true_eq] at hwf
    show 0 < cfg.totalLines
    omega

end Sys2Proof.Machine
end

/-! A step keeps the configuration, adds no driver line, and keeps the VDP legal: `KeepsVdpLegal` for everything `Execute` is made of,
then the driver's own calls, then the step phase by phase (spec/60_exceptions.md R827, R828, R842). -/
section
namespace Sys2Proof.Machine

variable {s t u : State} {c : Cpu}

/-- From `s` to `t` the configuration and the driver's script stay, and the VDP stays legal if it was. -/
structure KeepsVdpLegal (s t : State) : Prop where
  cfg : t.cfg = s.cfg
  lines : t.lines = s.lines
  legal : VdpLegal s.cfg s.vdp → VdpLegal s.cfg t.vdp

theorem KeepsVdpLegal.refl (s : State) : KeepsVdpLegal s s := ⟨rfl, rfl, id⟩

theorem KeepsVdpLegal.trans (h : KeepsVdpLegal s t) (k : KeepsVdpLegal t u) : KeepsVdpLegal s u where
  cfg := k.cfg.trans h.cfg
  lines := k.lines.trans h.lines
  legal hs := by
    have ht := k.legal
    rw [h.cfg] at ht
    exact ht (h.legal hs)

/-- What leaves the VDP alone keeps it legal. -/
theorem KeepsVdpLegal.of_eq (hcfg : t.cfg = s.cfg) (hlines : t.lines = s.lines) (hvdp : t.vdp = s.vdp) : KeepsVdpLegal s t :=
  ⟨hcfg, hlines, fun h => hvdp ▸ h⟩

/-- What goes on from a state with the same VDP keeps it legal. -/
theorem KeepsVdpLegal.after (h : KeepsVdpLegal t u) (hcfg : t.cfg = s.cfg) (hlines : t.lines = s.lines) (hvdp : t.vdp = s.vdp) :
    KeepsVdpLegal s u :=
  (of_eq hcfg hlines hvdp).trans h

/-! ## Accesses and runs of a CPU -/

theorem runCall_keepsVdpLegal (call : CoreCall) : KeepsVdpLegal s (runCall call s) where
  cfg := runCall_cfg s call
  lines := runCall_lines s call
  legal h := runCall_legal h call

theorem runCalls_keepsVdpLegal (calls : List CoreCall) : KeepsVdpLegal s (runCalls calls s) := by
  induction calls generalizing s with
  | nil => exact .refl s
  | cons call calls ih => exact (runCall_keepsVdpLegal call).trans ih

theorem takeReply_keepsVdpLegal : KeepsVdpLegal s (takeReply s).2 := .of_eq (by simp) (by simp) (by simp)

theorem externalRead_keepsVdpLegal (mk : Byte → Event) : KeepsVdpLegal s (externalRead mk s).2 :=
  (takeReply_keepsVdpLegal.trans (runCalls_keepsVdpLegal _)).trans (.of_eq rfl rfl rfl)

theorem externalWrite_keepsVdpLegal : KeepsVdpLegal s (externalWrite s) :=
  takeReply_keepsVdpLegal.trans (runCalls_keepsVdpLegal _)

theorem readControlPort_keepsVdpLegal : KeepsVdpLegal s (readControlPort s).2 := ⟨rfl, rfl, id⟩

theorem readDataPort_keepsVdpLegal : KeepsVdpLegal s (readDataPort s).2 := ⟨rfl, rfl, id⟩

/-- A byte for the control port is what the call of that entry point does (R131, R133). -/
theorem writeControlPort_keepsVdpLegal (b : Byte) : KeepsVdpLegal s (routeIrq (writeControlPort b s)) :=
  runCall_keepsVdpLegal (.writeControlPort b)

theorem writeDataPort_keepsVdpLegal (b : Byte) : KeepsVdpLegal s (writeDataPort b s) :=
  runCall_keepsVdpLegal (.writeDataPort b)

theorem inject_keepsVdpLegal (r : Request) : KeepsVdpLegal s (inject r s) := runCall_keepsVdpLegal (.inject r)

theorem emit_keepsVdpLegal (e : Event) : KeepsVdpLegal s (s.emit e) := .of_eq rfl rfl rfl

theorem memRead_keepsVdpLegal (a : Word) : KeepsVdpLegal s (memRead a s).2 := by
  unfold memRead
  split
  · exact .refl s
  · exact readControlPort_keepsVdpLegal
  · exact readDataPort_keepsVdpLegal
  · exact externalRead_keepsVdpLegal _

theorem takeByte_keepsVdpLegal (a : Word) (v : Byte) : KeepsVdpLegal s (takeByte a v s) := by
  unfold takeByte
  split
  · exact .of_eq rfl rfl rfl
  · exact writeControlPort_keepsVdpLegal v
  · exact writeDataPort_keepsVdpLegal v
  · exact externalWrite_keepsVdpLegal

theorem memWrite_keepsVdpLegal (a : Word) (v : Byte) : KeepsVdpLegal s (memWrite a v s) :=
  (emit_keepsVdpLegal _).trans (takeByte_keepsVdpLegal a v)

theorem portIn_keepsVdpLegal (p : Word) : KeepsVdpLegal s (portIn p s).2 := by
  unfold portIn
  split
  · exact readControlPort_keepsVdpLegal
  · exact readDataPort_keepsVdpLegal
  · exact externalRead_keepsVdpLegal _

theorem takePort_keepsVdpLegal (p : Word) (v : Byte) : KeepsVdpLegal s (takePort p v s) := by
  unfold takePort
  split
  · exact writeControlPort_keepsVdpLegal v
  · exact writeDataPort_keepsVdpLegal v
  · exact externalWrite_keepsVdpLegal

theorem portOut_keepsVdpLegal (p : Word) (v : Byte) : KeepsVdpLegal s (portOut p v s) :=
  (emit_keepsVdpLegal _).trans (takePort_keepsVdpLegal p v)

/-- A CPU reaches the VDP by accesses alone. -/
theorem CpuRuns.keepsVdpLegal (h : CpuRuns s c t) : KeepsVdpLegal s t := by
  induction h with
  | refl => exact .refl s
  | onZ _ f ih => exact ih.trans (.of_eq rfl rfl rfl)
  | onM _ f ih => exact ih.trans (.of_eq rfl rfl rfl)
  | emit _ e ih => exact ih.trans (emit_keepsVdpLegal e)
  | tick _ ih => exact ih.trans (.of_eq rfl rfl rfl)
  | read _ a ih => exact ih.trans (memRead_keepsVdpLegal a)
  | write _ a v ih => exact ih.trans (memWrite_keepsVdpLegal a v)
  | input _ p ih => exact ih.trans (portIn_keepsVdpLegal p)
  | output _ p v ih => exact ih.trans (portOut_keepsVdpLegal p v)

/-! ## Sample points -/

/-- A sample point of the Z80 that goes on has taken a request or nothing (R831). -/
theorem acceptZ_ok_keepsVdpLegal (h : acceptZ s = .ok t) : KeepsVdpLegal s t := by
  obtain ⟨-, ⟨-, rfl⟩ | ⟨-, -, v, -, hentry⟩ | ⟨-, -, rfl⟩⟩ := acceptZ_ok h
  · exact .after (nmiEntry_runs .refl).keepsVdpLegal rfl rfl rfl
  · exact .after (intEntry_runs hentry).keepsVdpLegal rfl rfl rfl
  · exact .refl _

/-- A sample point of the 6502 that goes on has taken a request or nothing (R844). -/
theorem acceptM_ok_keepsVdpLegal (h : acceptM s = .ok t) : KeepsVdpLegal s t := by
  obtain ⟨-, ⟨-, rfl⟩ | ⟨-, -, -, rfl⟩ | ⟨-, -, rfl⟩⟩ := acceptM_ok h
  · exact .after (entry6502_runs .refl _).keepsVdpLegal rfl rfl rfl
  · exact .after (entry6502_runs .refl _).keepsVdpLegal rfl rfl rfl
  · exact .refl _

theorem accept_z80 (hc : s.cfg.cpu = .z80) : accept s = acceptZ s := by
  unfold accept
  rw [hc]

theorem accept_m6502 (hc : s.cfg.cpu = .m6502) : accept s = acceptM s := by
  unfold accept
  rw [hc]

theorem accept_ok_keepsVdpLegal (h : accept s = .ok t) : KeepsVdpLegal s t := by
  cases hc : s.cfg.cpu with
  | z80 => exact acceptZ_ok_keepsVdpLegal (accept_z80 hc ▸ h)
  | m6502 => exact acceptM_ok_keepsVdpLegal (accept_m6502 hc ▸ h)

/-- A sample point and what follows it, whether it goes on or stops (R830, R842, R857). -/
theorem atSample_keepsVdpLegal {k : State → State} (h : atSample (accept s) k = .next t) (hk : ∀ u, KeepsVdpLegal u (k u)) :
    KeepsVdpLegal s t := by
  obtain ⟨u, hu, rfl⟩ | ⟨u, hu, rfl⟩ := atSample_next h
  · exact (accept_ok_keepsVdpLegal hu).trans (hk u)
  · obtain ⟨-, rfl⟩ := accept_stop hu
    exact .of_eq rfl rfl rfl

/-! ## `Execute` -/

theorem poll_keepsVdpLegal : KeepsVdpLegal s (poll s) := by
  have htake : KeepsVdpLegal s (takePoll s).2 := by
    unfold takePoll
    split <;> exact .of_eq rfl rfl rfl
  unfold poll
  exact ((htake.trans (runCalls_keepsVdpLegal _)).trans (emit_keepsVdpLegal _)).trans (inject_keepsVdpLegal _)

/-- The end of the grace window and the sample point it may have (R829, R830). -/
theorem graceEnd_keepsVdpLegal (hc : s.cfg.cpu = .z80) (h : graceEnd s = .next t) : KeepsVdpLegal s t := by
  have hclose : KeepsVdpLegal s (closeWindow s) := .of_eq rfl rfl rfl
  unfold graceEnd at h
  split at h
  · rw [← accept_z80 (s := closeWindow s) hc] at h
    exact hclose.trans (atSample_keepsVdpLegal h .refl)
  · cases h
    exact hclose

/-- The instruction a fetch finds, run after what stands between fetch and meaning, which changes a CPU record only. -/
theorem fetchExec_keepsVdpLegal {i : Instr} {s1 s2 : State} (hf : fetch s = (some i, s1)) (hb : CpuRuns s1 c s2)
    (he : exec i s2 = .next t) : KeepsVdpLegal s t := by
  have hfetch : CpuRuns s c s1 := by simpa only [hf] using fetch_runs (s := s) (c := c) .refl
  exact (hfetch.keepsVdpLegal.trans hb.keepsVdpLegal).trans ((exec_completes i).runs he).keepsVdpLegal

theorem stepZ80_keepsVdpLegal (hc : s.cfg.cpu = .z80) (h : stepZ80 s = .next t) : KeepsVdpLegal s t := by
  obtain ⟨-, rfl⟩ | ⟨-, i, s1, u, hf, he, hfinish⟩ := stepZ80_next h
  · exact .of_eq rfl rfl rfl
  · have hu : KeepsVdpLegal s u := fetchExec_keepsVdpLegal hf (cycZ_runs (.onZ .refl _) _) he
    obtain ⟨rfl, -⟩ | ⟨-, -, hgrace⟩ := hfinish
    · exact hu
    · exact hu.trans (graceEnd_keepsVdpLegal (hu.cfg ▸ hc) hgrace)

theorem stepM6502_keepsVdpLegal (h : stepM6502 s = .next t) : KeepsVdpLegal s t := by
  obtain ⟨i, s1, hf, he⟩ := stepM6502_next h
  exact fetchExec_keepsVdpLegal hf (cycM_runs (.onM .refl _) _) he

theorem executeEntry_keepsVdpLegal (h : executeEntry s = .next t) : KeepsVdpLegal s t := by
  unfold executeEntry at h
  split at h
  next hc =>
    rw [← accept_z80 hc] at h
    exact atSample_keepsVdpLegal h fun u => .of_eq rfl rfl rfl
  next hc =>
    rw [← accept_m6502 (s := s.onM _) hc] at h
    exact (atSample_keepsVdpLegal h fun u => .of_eq rfl rfl rfl).after rfl rfl rfl

theorem executeLoop_keepsVdpLegal (h : executeLoop s = .next t) : KeepsVdpLegal s t := by
  have hend : ∀ u, KeepsVdpLegal u (endExecute u) := fun u => .of_eq rfl rfl rfl
  cases hc : s.cfg.cpu with
  | z80 =>
    rw [executeLoop_z80 hc, ← accept_z80 hc] at h
    split at h
    · exact stepZ80_keepsVdpLegal hc h
    · exact atSample_keepsVdpLegal h hend
  | m6502 =>
    rw [executeLoop_m6502 hc, ← accept_m6502 (s := poll s) ((congrArg Config.cpu poll_keepsVdpLegal.cfg).trans hc)] at h
    split at h
    · exact stepM6502_keepsVdpLegal h
    · exact poll_keepsVdpLegal.trans (atSample_keepsVdpLegal h hend)

/-! ## The driver -/

@[simp] theorem stepScanline_cfg : (stepScanline s).2.cfg = s.cfg := by rw [stepScanline_keeps]

@[simp] theorem stepScanline_lines : (stepScanline s).2.lines = s.lines := by rw [stepScanline_keeps]

/-- A saved state the driver restores is legal for this configuration, as `InputsLegal` asks of each line. -/
def ActionsLegal (cfg : Config) (acts : List DriverAction) : Prop := ∀ act ∈ acts, ∀ b, act = .restore b → BlobLegal cfg b

theorem resetMachine_legal (hwf : s.cfg.wf = true) : VdpLegal s.cfg (resetMachine s).vdp := by
  have hreset := vdpReset_legal hwf
  cases hc : s.cfg.cpu with
  | z80 =>
    rw [resetMachine_z80 hc]
    exact hreset
  | m6502 =>
    rw [resetMachine_m6502 hc]
    exact (memRead16_runs (c := .m6502) .refl 0xFFFC).keepsVdpLegal.legal hreset

theorem runAction_legal (hwf : s.cfg.wf = true) (h : VdpLegal s.cfg s.vdp) {act : DriverAction}
    (ha : ∀ b, act = .restore b → BlobLegal s.cfg b) : VdpLegal s.cfg (runAction act s).vdp := by
  cases act with
  | reset => exact resetMachine_legal hwf
  | save => exact h
  | restore b => exact (ha b rfl).1
  | writeRegister index value => simpa [runAction] using writeRegister_legal h index value
  | stepScanline => exact stepScanline_legal hwf h
  | call c => exact runCall_legal h c

theorem runActions_legal {acts : List DriverAction} (hwf : s.cfg.wf = true) (h : VdpLegal s.cfg s.vdp)
    (ha : ActionsLegal s.cfg acts) : VdpLegal s.cfg (runActions acts s).vdp := by
  induction acts generalizing s with
  | nil => exact h
  | cons act acts ih =>
    have hcfg : (runAction act s).cfg = s.cfg := runAction_cfg act
    have hact := runAction_legal hwf h (ha act List.mem_cons_self)
    rw [← hcfg] at hwf hact ha ⊢
    exact ih hwf hact fun a hm => ha a (List.mem_cons_of_mem _ hm)

/-! ## The step -/

/-- What a step keeps, whatever its phase: the configuration, the driver's script but for lines used up, and a legal VDP where the
restored states are legal. -/
structure StepKeeps (s t : State) : Prop where
  cfg : t.cfg = s.cfg
  lines : t.lines ⊆ s.lines
  legal : s.cfg.wf = true → InputsLegal s → VdpLegal s.cfg s.vdp → VdpLegal s.cfg t.vdp

theorem KeepsVdpLegal.stepKeeps (h : KeepsVdpLegal s t) : StepKeeps s t :=
  ⟨h.cfg, h.lines ▸ List.Subset.refl _, fun _ _ => h.legal⟩

theorem startIteration_keeps : StepKeeps s (startIteration s) := by
  unfold startIteration
  split
  · exact ⟨rfl, List.Subset.refl _, fun _ _ h => h⟩
  next line rest hl =>
    refine ⟨by simp [startTurn], ?_, fun hwf hi h => ?_⟩
    · simp [startTurn, hl]
    · exact runActions_legal (s := { s with lines := rest }) hwf h (hi line (hl ▸ List.mem_cons_self))

theorem scanlineHalf_keeps : StepKeeps s (scanlineHalf s) := by
  have hlines : (scanlineHalf s).lines = s.lines := by simp only [scanlineHalf, routeIrq_lines, stepScanline_lines]
  refine ⟨?_, hlines ▸ List.Subset.refl _, fun hwf _ h => ?_⟩
  · simp only [scanlineHalf, routeIrq_cfg, stepScanline_cfg]
  · simpa only [scanlineHalf, routeIrq_vdp] using stepScanline_legal hwf h

theorem whileStopped_keeps : StepKeeps s (whileStopped s) := by
  unfold whileStopped
  split
  · exact (KeepsVdpLegal.refl s).stepKeeps
  · exact startIteration_keeps

theorem step_keeps (h : step s = .next t) : StepKeeps s t := by
  cases hp : s.phase with
  | iterStart =>
    cases (step_iterStart hp).symm.trans h
    exact startIteration_keeps
  | execEntry => exact (executeEntry_keepsVdpLegal (step_execEntry hp ▸ h)).stepKeeps
  | execLoop => exact (executeLoop_keepsVdpLegal (step_execLoop hp ▸ h)).stepKeeps
  | scanline =>
    cases (step_scanline hp).symm.trans h
    exact scanlineHalf_keeps
  | stopped =>
    cases (step_stopped hp).symm.trans h
    exact whileStopped_keeps

/-- Legal inputs stay legal when the configuration stays and no line is added. -/
theorem InputsLegal.mono (h : InputsLegal s) (hcfg : t.cfg = s.cfg) (hlines : t.lines ⊆ s.lines) : InputsLegal t := by
  intro line hl
  rw [hcfg]
  exact h line (hlines hl)

/-- Settles O9: what each phase of a step keeps (`step_keeps`), with the runs of a CPU reaching the VDP by accesses alone. -/
theorem stepKeepsTheVdpLegalAndTheConfiguration : Obligations.StepKeepsTheVdpLegalAndTheConfiguration := by
  intro s t h
  have hk := step_keeps h
  refine ⟨hk.cfg, fun hwf hi hv => ⟨hi.mono hk.cfg hk.lines, ?_⟩⟩
  rw [hk.cfg]
  exact hk.legal hwf hi hv

end Sys2Proof.Machine
end

/-! Small laws of words, flag bytes and the CPU records, which the proofs below share. -/
section
namespace Sys2Proof.Machine

variable {s : State}

/-! ## Words and bytes -/

theorem lo8_mk16 (hi lo : Byte) : lo8 (mk16 hi lo) = lo := BitVec.extractLsb'_append_eq_right

theorem mk16_hi8_lo8 (v : Word) : mk16 (hi8 v) (lo8 v) = v := by
  have h : v.extractLsb' 8 8 ++ v.extractLsb' 0 8 = v.extractLsb' 0 16 :=
    BitVec.extractLsb'_append_extractLsb'_eq_extractLsb' rfl
  rw [mk16, hi8, lo8, h]
  exact BitVec.extractLsb'_eq_self

theorem Byte.sub_two_sub_one (b : Byte) : b - 2 - 1 = b - 3 := by bv_omega
theorem Byte.add_one_add_two (b : Byte) : b + 1 + 2 = b + 3 := by bv_omega

/-- `R` advances in its low seven bits, bit 7 stays (R40). -/
theorem advanceR_eq (n r : Byte) :
    advanceR n r = BitVec.ofNat 8 (r.toNat / 128 * 128 + (r.toNat + n.toNat) % 128) := by
  have hr := r.isLt
  have hhigh : r.toNat &&& 128 = 2 ^ 7 * (r.toNat / 128) := by
    rw [show 128 = 2 ^ 7 from rfl, Nat.and_two_pow, Nat.toNat_testBit]
    omega
  have hlow : (r.toNat + n.toNat) % 2 ^ 8 &&& 127 = (r.toNat + n.toNat) % 128 := by
    rw [show 127 = 2 ^ 7 - 1 from rfl, Nat.and_two_pow_sub_one_eq_mod]
    omega
  apply BitVec.eq_of_toNat_eq
  calc (advanceR n r).toNat = (r.toNat &&& 128) ||| ((r.toNat + n.toNat) % 2 ^ 8 &&& 127) := rfl
    _ = 2 ^ 7 * (r.toNat / 128) ||| (r.toNat + n.toNat) % 128 := by rw [hhigh, hlow]
    _ = 2 ^ 7 * (r.toNat / 128) + (r.toNat + n.toNat) % 128 := (Nat.two_pow_add_eq_or_of_lt (by omega) _).symm
    _ = _ := by
      rw [BitVec.toNat_ofNat]
      omega

/-! ## Changes of a CPU record -/

/-- A change of the Z80 record is known by what it gives for the record at hand. -/
theorem State.onZ_congr {f g : Z80 → Z80} (h : f s.z = g s.z) : s.onZ f = s.onZ g :=
  congrArg (fun z => { s with z := z }) h

/-- A change of the 6502 record is known by what it gives for the record at hand. -/
theorem State.onM_congr {f g : M6502 → M6502} (h : f s.m = g s.m) : s.onM f = s.onM g :=
  congrArg (fun m => { s with m := m }) h

/-! ## The bits of a flag byte (R37, R50) -/

section FlagBits
variable (b7 b6 b5 b4 b3 b2 b1 b0 : Bool)

@[simp] theorem mkF_bit7 : (mkF b7 b6 b5 b4 b3 b2 b1 b0)[7] = b7 := by decide +revert
@[simp] theorem mkF_bit6 : (mkF b7 b6 b5 b4 b3 b2 b1 b0)[6] = b6 := by decide +revert
@[simp] theorem mkF_bit5 : (mkF b7 b6 b5 b4 b3 b2 b1 b0)[5] = b5 := by decide +revert
@[simp] theorem mkF_bit4 : (mkF b7 b6 b5 b4 b3 b2 b1 b0)[4] = b4 := by decide +revert
@[simp] theorem mkF_bit3 : (mkF b7 b6 b5 b4 b3 b2 b1 b0)[3] = b3 := by decide +revert
@[simp] theorem mkF_bit2 : (mkF b7 b6 b5 b4 b3 b2 b1 b0)[2] = b2 := by decide +revert
@[simp] theorem mkF_bit1 : (mkF b7 b6 b5 b4 b3 b2 b1 b0)[1] = b1 := by decide +revert
@[simp] theorem mkF_bit0 : (mkF b7 b6 b5 b4 b3 b2 b1 b0)[0] = b0 := by decide +revert

end FlagBits

/-- Two bytes agree under a mask when they agree in each bit of it. -/
theorem and_eq_and_iff (a b k : Byte) :
    a &&& k = b &&& k ↔
      (k[7] = true → a[7] = b[7]) ∧ (k[6] = true → a[6] = b[6]) ∧ (k[5] = true → a[5] = b[5]) ∧ (k[4] = true → a[4] = b[4]) ∧
      (k[3] = true → a[3] = b[3]) ∧ (k[2] = true → a[2] = b[2]) ∧ (k[1] = true → a[1] = b[1]) ∧ (k[0] = true → a[0] = b[0]) := by
  have hbit (i : Nat) (hi : i < 8) : (a &&& k)[i] = (b &&& k)[i] ↔ (k[i] = true → a[i] = b[i]) := by
    rw [BitVec.getElem_and, BitVec.getElem_and]
    cases k[i] <;> simp
  refine ⟨fun h => ?_, fun ⟨h7, h6, h5, h4, h3, h2, h1, h0⟩ => BitVec.eq_of_getElem_eq fun i hi => (hbit i hi).2 ?_⟩
  · simp only [← hbit, h, and_self]
  · interval_cases i <;> assumption

/-- A flag byte made with the old carry keeps bit 0. -/
theorem mkF_flagC_and (f : Byte) (b7 b6 b5 b4 b3 b2 b1 : Bool) :
    mkF b7 b6 b5 b4 b3 b2 b1 (flagC f) &&& 0x01 = f &&& 0x01 := by
  simp [and_eq_and_iff, flagC]

/-- A flag byte made with the old `N` keeps bit 1. -/
theorem mkF_flagN_and (f : Byte) (b7 b6 b5 b4 b3 b2 b0 : Bool) :
    mkF b7 b6 b5 b4 b3 b2 (flagN f) b0 &&& 0x02 = f &&& 0x02 := by
  simp [and_eq_and_iff, flagN]

/-- A flag byte made with the old `S`, `Z` and `PV` keeps bits 7, 6 and 2. -/
theorem mkF_flagSZP_and (f : Byte) (b5 b4 b3 b1 b0 : Bool) :
    mkF (flagS f) (flagZ f) b5 b4 b3 (flagPV f) b1 b0 &&& 0xC4 = f &&& 0xC4 := by
  simp [and_eq_and_iff, flagS, flagZ, flagPV]

/-- A flag byte made with the old `S`, `Z` and `C` keeps bits 7, 6 and 0. -/
theorem mkF_flagSZC_and (f : Byte) (b5 b4 b3 b2 b1 : Bool) :
    mkF (flagS f) (flagZ f) b5 b4 b3 b2 b1 (flagC f) &&& 0xC1 = f &&& 0xC1 := by
  simp [and_eq_and_iff, flagS, flagZ, flagC]

/-- A flag byte made with the old `S`, `Z`, `PV` and `C` keeps bits 7, 6, 2 and 0. -/
theorem mkF_flagSZPC_and (f : Byte) (b5 b4 b3 b1 : Bool) :
    mkF (flagS f) (flagZ f) b5 b4 b3 (flagPV f) b1 (flagC f) &&& 0xC5 = f &&& 0xC5 := by
  simp [and_eq_and_iff, flagS, flagZ, flagPV, flagC]

end Sys2Proof.Machine
end

/-! Saving and restoring, the entries of the Z80 and the stack of the 6502: each operation as accesses on the state before it and one
change of the CPU record after them. -/
section
namespace Sys2Proof.Machine

variable {s : State}

/-- Settles O60: the four parts of the saved state are the four that `restore` writes. -/
theorem restoreGivesBackWhatWasSaved : Obligations.RestoreGivesBackWhatWasSaved :=
  fun _ _ => ⟨rfl, rfl, rfl, rfl, rfl, rfl⟩

/-! ## The entries of the Z80 (R832 to R837) -/

/-- The record an entry leaves: past a halt, `R` advanced, flip-flops cleared, two bytes pushed (R832, R833, R837). -/
def entered (s : State) (keepIff2 : Bool) (z : Z80) : Z80 :=
  { z with
    pc := if s.z.halted = true then s.z.pc + 1 else s.z.pc
    sp := s.z.sp - 2
    halted := false
    r := BitVec.ofNat 8 (s.z.r.toNat / 128 * 128 + (s.z.r.toNat + 1) % 128)
    iff1 := false
    iff2 := keepIff2 && z.iff2 }

/-- The state with the return address of an entry pushed: past the opcode of a halt, else `PC` (R832, R837). -/
def entryPushed (s : State) : State :=
  let ret := if s.z.halted = true then s.z.pc + 1 else s.z.pc
  memWrite (s.z.sp - 2) (lo8 ret) (memWrite (s.z.sp - 1) (hi8 ret) s)

/-- An entry of the Z80, as two writes on the state before it. -/
theorem entryZ_eq (s : State) (keepIff2 : Bool) : entryZ keepIff2 s = (entryPushed s).onZ (entered s keepIff2) := by
  simp only [entryZ, pushZ_eq, memWrite_onZ, State.onZ_z, State.onZ_onZ]
  exact State.onZ_congr (by simp [entryRegs, entered, advanceR_eq])

@[simp] theorem entryPushed_z : (entryPushed s).z = s.z := by simp [entryPushed]

@[simp] theorem entered_i (keepIff2 : Bool) (z : Z80) : (entered s keepIff2 z).i = z.i := rfl

/-- What an entry ends with: the jump and the charge, as one change of the record (R832 to R836). -/
theorem cycZ_jumpZ_onZ (n : Nat) (a : Word) (f : Z80 → Z80) :
    cycZ n (jumpZ a (s.onZ f)) = s.onZ fun z => { f z with pc := a, icount := (f z).icount - n } := by
  simp only [cycZ, jumpZ, State.onZ_onZ]

/-- Settles O45: every entry is the push of the return address, then one change of the record (`entryZ_eq`). -/
theorem z80EntriesSaveThePcAndVector : Obligations.Z80EntriesSaveThePcAndVector := by
  intro s v
  dsimp only
  refine ⟨?_, fun him hrst => ?_, fun him hrst => ?_, fun him => ?_, fun him => ?_, by decide⟩
  · rw [nmiEntry, entryZ_eq, cycZ_jumpZ_onZ]
    rfl
  · simp only [intEntry, him, isRst, hrst, beq_self_eq_true, if_true, entryZ_eq, cycZ_jumpZ_onZ]
    rfl
  · simp only [intEntry, him, isRst, beq_iff_eq, hrst, if_false]
  · simp only [intEntry, him, entryZ_eq, cycZ_jumpZ_onZ]
    rfl
  · simp only [intEntry, him, entryZ_eq, State.onZ_z, entered_i, entryPushed_z, memRead16, memRead_onZ, cycZ_jumpZ_onZ]
    rfl

/-! ## The 6502's stack (R136, R568 to R571, R645, R646) -/

/-- A push of a byte, with the stack pointer of the state before it. -/
theorem pushM_eq (v : Byte) : pushM v s = (memWrite (stackAddr s.m.s) v s).onM fun m => { m with s := s.m.s - 1 } :=
  State.onM_congr (by simp)

@[simp] theorem loadP_s (v : Byte) (m : M6502) : (M6502.loadP v m).s = m.s := rfl

/-- The six flags pushed are the six flags pulled (R50). -/
theorem loadP_pushedP (m p : M6502) (b : Bool) :
    m.loadP (p.pushedP b) = { m with fn := p.fn, fv := p.fv, fd := p.fd, fi := p.fi, fz := p.fz, fc := p.fc } := by
  simp [M6502.loadP, M6502.pushedP]

/-- The state with a return address and a status byte pushed by the 6502 (R645, R845). -/
def vectorPushed (ret : Word) (b : Bool) (s : State) : State :=
  memWrite (stackAddr (s.m.s - 2)) (s.m.pushedP b)
    (memWrite (stackAddr (s.m.s - 1)) (lo8 ret) (memWrite (stackAddr s.m.s) (hi8 ret) s))

/-- `BRK` and the interrupt entry: three writes, two reads, one change of the record (R645, R845). -/
theorem vectorM_eq (ret : Word) (b : Bool) (vec : Word) :
    vectorM ret b vec s =
      let lo := memRead vec (vectorPushed ret b s)
      let hi := memRead (vec + 1) lo.2
      hi.2.onM fun m => { m with s := s.m.s - 3, fi := true, pc := mk16 hi.1 lo.1 } := by
  simp only [vectorM, vectorPushed, pushM16_eq, pushM_eq, memRead16, onM_onM, memRead_onM, memWrite_onM, State.onM_m,
    memWrite_m, Byte.sub_two_sub_one]
  rfl

/-- `RTI`: three reads, then one change of the record (R646). -/
theorem returnM_eq :
    let p := memRead (stackAddr (s.m.s + 1)) s
    let lo := memRead (stackAddr (s.m.s + 2)) p.2
    let hi := memRead (stackAddr (s.m.s + 3)) lo.2
    returnM s = hi.2.onM fun m => M6502.loadP p.1 { m with s := s.m.s + 3, pc := mk16 hi.1 lo.1 } := by
  simp only [returnM, pullM_eq, pullM16_eq, onM_onM, memRead_onM, State.onM_m, memRead_m, loadP_s, Byte.add_one_add_one,
    Byte.add_one_add_two]
  exact State.onM_congr (by simp only [M6502.loadP, memRead_m])

theorem execMPla_eq (s : State) :
    let p := memRead (stackAddr (s.m.s + 1)) s
    exec .mPla s = .next (p.2.onM fun m =>
      { m with s := s.m.s + 1, a := p.1, fn := decide (128 ≤ p.1.toNat), fz := decide (p.1 = 0) }) := by
  have hn (v : Byte) : v.msb = decide (128 ≤ v.toNat) := BitVec.msb_eq_decide v
  simp only [exec, execMPla, pullM_eq, onM_onM]
  exact congrArg _ (State.onM_congr (by simp [M6502.loadA, M6502.setNZ, hn]; rfl))

theorem execMPlp_eq (s : State) :
    let p := memRead (stackAddr (s.m.s + 1)) s
    exec .mPlp s = .next (p.2.onM fun m => M6502.loadP p.1 { m with s := s.m.s + 1 }) := by
  simp only [exec, execMPlp, pullM_eq, onM_onM]
  exact congrArg _ (State.onM_congr (by simp only [memRead_m]))

/-! ## `RTI` after `BRK` on plain RAM -/

@[simp] theorem vectorPushed_cfg (ret : Word) (b : Bool) : (vectorPushed ret b s).cfg = s.cfg := by simp [vectorPushed]
@[simp] theorem vectorPushed_m (ret : Word) (b : Bool) : (vectorPushed ret b s).m = s.m := by simp [vectorPushed]

theorem stackAddr_inj {a b : Byte} : stackAddr a = stackAddr b ↔ a = b := by
  refine ⟨fun h => ?_, fun h => h ▸ rfl⟩
  have hlow := congrArg lo8 h
  simpa only [stackAddr, lo8_mk16] using hlow

/-- What stands on the stack after `BRK` or an interrupt entry on plain RAM (R645, R845). -/
theorem vectorPushed_ramByte (h : ∀ a, PlainAt s.cfg a) (ret : Word) (b : Bool) :
    let t := vectorPushed ret b s
    t.ramByte (stackAddr (s.m.s - 2)) = s.m.pushedP b ∧ t.ramByte (stackAddr (s.m.s - 1)) = lo8 ret ∧
      t.ramByte (stackAddr s.m.s) = hi8 ret := by
  have h01 : stackAddr s.m.s ≠ stackAddr (s.m.s - 1) := by rw [Ne, stackAddr_inj]; bv_omega
  have h02 : stackAddr s.m.s ≠ stackAddr (s.m.s - 2) := by rw [Ne, stackAddr_inj]; bv_omega
  have h12 : stackAddr (s.m.s - 1) ≠ stackAddr (s.m.s - 2) := by rw [Ne, stackAddr_inj]; bv_omega
  refine ⟨?_, ?_, ?_⟩
  · exact memWrite_ramByte_same _ _ _ (by simpa [PlainAt] using h _)
  · rw [vectorPushed, memWrite_ramByte_other _ _ _ _ h12]
    exact memWrite_ramByte_same _ _ _ (by simpa [PlainAt] using h _)
  · rw [vectorPushed, memWrite_ramByte_other _ _ _ _ h02, memWrite_ramByte_other _ _ _ _ h01]
    exact memWrite_ramByte_same _ _ _ (h _)

/-- On plain RAM `RTI` undoes what `BRK` pushed. -/
theorem returnM_vectorM (h : ∀ a, PlainAt s.cfg a) (ret vec : Word) (b : Bool) :
    (returnM (vectorM ret b vec s)).m = { s.m with pc := ret } := by
  obtain ⟨hp, hlo, hhi⟩ := vectorPushed_ramByte h ret b
  have hread (a : Word) : memRead a (vectorPushed ret b s) = ((vectorPushed ret b s).ramByte a, vectorPushed ret b s) :=
    memRead_plain _ a (by simpa [PlainAt] using h a)
  have h1 : s.m.s - 3 + 1 = s.m.s - 2 := by bv_omega
  have h2 : s.m.s - 3 + 2 = s.m.s - 1 := by bv_omega
  have h3 : s.m.s - 3 + 3 = s.m.s := by bv_omega
  simp only [returnM_eq, vectorM_eq, memRead_onM, State.onM_m, hread, vectorPushed_m, h1, h2, h3, hp, hlo, hhi, loadP_pushedP,
    mk16_hi8_lo8]

/-- Settles O43: the stack operations as accesses on the state before them, and `returnM_vectorM` on plain RAM. -/
theorem stackBreakAndReturnOfThe6502 : Obligations.StackBreakAndReturnOfThe6502 := by
  refine ⟨fun m b => by simp [M6502.pushedP], fun s => ?_, fun s h => ?_⟩
  · refine ⟨congrArg _ (pushM_eq _), congrArg _ (pushM_eq _), execMPla_eq s, execMPlp_eq s, ?_, ?_⟩
    · simp only [exec, execMRti, returnM_eq]
      rfl
    · simp only [exec, execMBrk, vectorM_eq, vectorPushed]
      rfl
  · exact ⟨_, _, rfl, rfl, returnM_vectorM h _ _ _⟩

end Sys2Proof.Machine
end

/-! What an instruction of the Z80 leaves alone in its record: the special registers, unless its rule writes one, and the flags its
rule does not name. One lemma per shared operation, then one arm per form an instruction's meaning has. -/
section
namespace Sys2Proof.Machine

variable {s t : State} {k : Byte} {z z' : Z80}

/-- The special registers of a record: everything else is blanked (R33, R39 to R42, R44, R45). -/
def Z80.special (z : Z80) : Z80 :=
  { z with a := 0, f := 0, b := 0, c := 0, d := 0, e := 0, h := 0, l := 0, ix := 0, iy := 0, sp := 0, pc := 0, icount := 0 }

/-- From one record to the other the special registers stay, and of the flags the bits in `k`. -/
structure Z80.Keeps (k : Byte) (z z' : Z80) : Prop where
  special : z'.special = z.special
  flags : z'.f &&& k = z.f &&& k

theorem Z80.Keeps.of_f (hs : z'.special = z.special) (hf : z'.f = z.f) : z.Keeps k z' := ⟨hs, by rw [hf]⟩

/-- Where the rule names every flag, none is asked to stay. -/
theorem Z80.Keeps.of_allFlags (hs : z'.special = z.special) : z.Keeps 0x00 z' := ⟨hs, by simp⟩

theorem Z80.Keeps.refl (z : Z80) : z.Keeps k z := .of_f rfl rfl

theorem Z80.Keeps.trans {z'' : Z80} (h : z.Keeps k z') (h' : z'.Keeps k z'') : z.Keeps k z'' :=
  ⟨h'.special.trans h.special, h'.flags.trans h.flags⟩

/-! ## Writing a register by its code -/

theorem special_set8 (r : Reg8) (v : Byte) (z : Z80) : (z.set8 r v).special = z.special := by cases r <;> rfl

theorem special_setXY (xy : XYReg) (v : Word) (z : Z80) : (z.setXY xy v).special = z.special := by cases xy <;> rfl

theorem special_setHalf (xy : XYReg) (l : Half) (v : Byte) (z : Z80) : (z.setHalf xy l v).special = z.special := by
  cases l <;> exact special_setXY _ _ _

theorem set8_keeps (r : Reg8) (v : Byte) (z : Z80) : z.Keeps k (z.set8 r v) := .of_f (special_set8 r v z) (by cases r <;> rfl)

theorem setSS_keeps (r : RegSS) (v : Word) (z : Z80) : z.Keeps k (z.setSS r v) := by cases r <;> exact .of_f rfl rfl

theorem setXY_keeps (xy : XYReg) (v : Word) (z : Z80) : z.Keeps k (z.setXY xy v) :=
  .of_f (special_setXY xy v z) (by cases xy <;> rfl)

theorem setHalf_keeps (xy : XYReg) (l : Half) (v : Byte) (z : Z80) : z.Keeps k (z.setHalf xy l v) := by
  cases l <;> exact setXY_keeps _ _ _

/-- `POP AF` alone of the pops writes `F` (R261). -/
theorem setQQ_keeps (qq : RegQQ) (v : Word) (z : Z80) : z.Keeps (keptFlags (.zPopQq qq)) (z.setQQ qq v) := by
  cases qq with
  | af => exact .of_allFlags rfl
  | bc | de | hl => exact .of_f rfl rfl

theorem update8_keeps {op : Byte → Byte → Byte × Byte} (h : ∀ v f, (op v f).2 &&& k = f &&& k) (r : Reg8) (z : Z80) :
    z.Keeps k (z.update8 r op) :=
  ⟨special_set8 _ _ _, h _ _⟩

theorem updateHalf_keeps {op : Byte → Byte → Byte × Byte} (h : ∀ v f, (op v f).2 &&& k = f &&& k) (xy : XYReg) (l : Half)
    (z : Z80) : z.Keeps k (z.updateHalf xy l op) :=
  ⟨special_setHalf _ _ _ _, h _ _⟩

/-- The record after `IN r,(C)` of the byte `v` (R460). -/
theorem inputFlags_keeps (r : Reg8) (v : Byte) (z : Z80) :
    z.Keeps 0x01 { z.set8 r v with f := sz53p v false false (flagC z.f) } :=
  ⟨special_set8 _ _ _, mkF_flagC_and z.f _ _ _ _ _ _ _⟩

/-! ## The flags of an operation on one byte -/

theorem rotateM_keeps (rot : Rot) (v f : Byte) : (rotateM rot v f).2 &&& 0x00 = f &&& 0x00 := by simp

theorem inc8_keeps (v f : Byte) : (inc8 v f).2 &&& 0x01 = f &&& 0x01 := mkF_flagC_and f _ _ _ _ _ _ _

theorem dec8_keeps (v f : Byte) : (dec8 v f).2 &&& 0x01 = f &&& 0x01 := mkF_flagC_and f _ _ _ _ _ _ _

theorem setBit_keeps (b : BitVec 3) (v f : Byte) : (setBit b v f).2 &&& k = f &&& k := rfl

theorem resBit_keeps (b : BitVec 3) (v f : Byte) : (resBit b v f).2 &&& k = f &&& k := rfl

/-! ## The shared operations -/

/-- What leaves the Z80 record alone. -/
theorem keeps_of_z (h : t.z = s.z) : s.z.Keeps k t.z := h ▸ .refl _

theorem choice_keeps {p : Prop} [Decidable p] {u : State} (ht : s.z.Keeps k t.z) (hu : s.z.Keeps k u.z) :
    s.z.Keeps k (if p then t else u).z := by
  split
  · exact ht
  · exact hu

theorem onZ_keeps {f : Z80 → Z80} (ht : t.z = s.z) (hf : ∀ z : Z80, z.Keeps k (f z)) : s.z.Keeps k (t.onZ f).z := ht ▸ hf t.z

theorem cycZ_keeps (h : z.Keeps k t.z) (n : Nat) : z.Keeps k (cycZ n t).z := ⟨h.special, h.flags⟩

theorem jumpZ_keeps (h : z.Keeps k t.z) (a : Word) : z.Keeps k (jumpZ a t).z := ⟨h.special, h.flags⟩

theorem pushZ_keeps (v : Word) : s.z.Keeps k (pushZ v s).z := by
  rw [pushZ_z]
  exact .of_f rfl rfl

theorem popZ_keeps : s.z.Keeps k (popZ s).2.z := by
  rw [popZ_z]
  exact .of_f rfl rfl

theorem popPC_keeps : s.z.Keeps k (popPC s).z := jumpZ_keeps popZ_keeps _

@[simp] theorem exchangeSP_z (v : Word) : (exchangeSP v s).2.z = s.z := by simp [exchangeSP]

theorem modifyZ_keeps {op : Byte → Byte → Byte × Byte} (h : ∀ v f, (op v f).2 &&& k = f &&& k) (a : Word) :
    s.z.Keeps k (modifyZ a op s).z := by
  have hf := h (memRead a s).1 s.z.f
  simp only [modifyZ, State.onZ_z, memWrite_z, memRead_z]
  exact ⟨rfl, hf⟩

theorem blockLoad_keeps (d : Word) : s.z.Keeps 0xC1 (blockLoad d s).z :=
  onZ_keeps (by simp) fun z => ⟨rfl, mkF_flagSZC_and z.f _ _ _ _ _⟩

theorem blockCompare_keeps (d : Word) : s.z.Keeps 0x01 (blockCompare d s).z :=
  onZ_keeps (by simp) fun z => ⟨rfl, mkF_flagC_and z.f _ _ _ _ _ _ _⟩

theorem blockIn_keeps (d : Word) (j : Byte) : s.z.Keeps 0x00 (blockIn d j s).z :=
  onZ_keeps (by simp) fun _ => .of_allFlags rfl

theorem blockOut_keeps (d : Word) : s.z.Keeps 0x00 (blockOut d s).z := by
  simp only [blockOut, State.onZ_z, portOut_z, memRead_z]
  exact .of_allFlags rfl

theorem repeatIf_keeps (h : s.z.Keeps k t.z) (test : Z80 → Bool) : s.z.Keeps k (repeatIf test t).z :=
  choice_keeps (cycZ_keeps (jumpZ_keeps h _) _) h

theorem decimalRotate_keeps (op : Byte → Byte → Byte × Byte) : s.z.Keeps 0x01 (decimalRotate op s).z :=
  onZ_keeps (by simp) fun z => ⟨rfl, mkF_flagC_and z.f _ _ _ _ _ _ _⟩

/-! ## The instructions -/

/-- The result `r` is a next state in which the record keeps its special registers and the flags in `k`. -/
def KeepsZ (k : Byte) (s : State) (r : Result) : Prop := ∃ t, r = .next t ∧ s.z.Keeps k t.z

theorem KeepsZ.next (h : s.z.Keeps k t.z) : KeepsZ k s (.next t) := ⟨t, rfl, h⟩

theorem KeepsZ.keeps {r : Result} (h : KeepsZ k s r) (hr : r = .next t) : s.z.Keeps k t.z := by
  obtain ⟨u, hu, hk⟩ := h
  cases hu.symm.trans hr
  exact hk

theorem regsZ_keeps {f : Z80 → Z80} (h : ∀ z : Z80, z.Keeps k (f z)) : KeepsZ k s (regsZ f s) := .next (onZ_keeps rfl h)

theorem loadZ_keeps {a : Word} {f : Byte → Z80 → Z80} (h : ∀ v (z : Z80), z.Keeps k (f v z)) : KeepsZ k s (loadZ a f s) :=
  .next (onZ_keeps (memRead_z s a) (h _))

theorem loadZ16_keeps {a : Word} {f : Word → Z80 → Z80} (h : ∀ v (z : Z80), z.Keeps k (f v z)) : KeepsZ k s (loadZ16 a f s) :=
  .next (onZ_keeps (memRead16_z s a) (h _))

theorem inputC_keeps {f : Byte → Z80 → Z80} (h : ∀ v (z : Z80), z.Keeps k (f v z)) : KeepsZ k s (inputC f s) :=
  .next (onZ_keeps (portIn_z s _) (h _))

theorem modifyCopy_keeps {op : Byte → Byte → Byte × Byte} (h : ∀ v f, (op v f).2 &&& k = f &&& k) (xy : XYReg) (d : Byte)
    (r : Reg8) : KeepsZ k s (modifyCopy xy d r op s) := by
  have hf := h (memRead (s.z.ea xy d) s).1 s.z.f
  refine .next ?_
  simp only [State.onZ_z, memWrite_z, memRead_z]
  exact ⟨special_set8 _ _ _, hf⟩

theorem bitIndexed_keeps (xy : XYReg) (d : Byte) (b : BitVec 3) : KeepsZ 0x01 s (bitIndexed xy d b s) := by
  unfold bitIndexed
  exact loadZ_keeps fun _ z => ⟨rfl, mkF_flagC_and z.f _ _ _ _ _ _ _⟩

/-- The illegal-opcode policy leaves the record alone (R184, R821). -/
theorem undocumented_keeps {i : Instr} {meaning : State → Result} (h : KeepsZ k s (meaning s)) :
    KeepsZ k s (undocumented i meaning s) := by
  unfold undocumented
  split
  · exact h
  · exact .next (keeps_of_z (illegalZ_z s i))

/-- The instructions whose rules write a special register (R245 to R248, R264, R265, R412 to R421, R507). -/
def writesSpecial : Instr → Bool
  | .zExAfAf | .zExx | .zLdIA | .zLdRA | .zDi | .zEi | .zRetn | .zReti | .zRetnCopy _ | .zIm0 | .zIm1 | .zIm2 | .zIm0Copy4E
  | .zIm0Copy66 | .zIm0Copy6E | .zIm1Copy | .zIm2Copy | .zHalt => true
  | _ => false

/-- Every other instruction of the Z80 keeps the special registers and the flags its rule does not name: one arm per form and set of
flags (spec/40_z80_load.md to spec/45_z80_undoc.md). -/
theorem exec_keepsZ : ∀ i : Instr, i.cpu = .z80 → writesSpecial i = false → KeepsZ (keptFlags i) s (exec i s)
  | .zNop .., _, _ | .zPrefix .., _, _ | .zPrefixPrefix .., _, _ => .next (.refl _)
  | .zIllegalEd .., _, _ => .next (keeps_of_z (illegalZ_z s _))
  -- loads, exchanges, 16-bit counting: no flag
  | .zLdRN .., _, _ | .zLdRR .., _, _ => regsZ_keeps fun _ => set8_keeps _ _ _
  | .zLdDdNn .., _, _ | .zIncSs .., _, _ | .zDecSs .., _, _ => regsZ_keeps fun _ => setSS_keeps _ _ _
  | .zLdXyNn .., _, _ | .zIncXy .., _, _ | .zDecXy .., _, _ => regsZ_keeps fun _ => setXY_keeps _ _ _
  | .zLdSpHl .., _, _ | .zLdSpXy .., _, _ | .zExDeHl .., _, _ => regsZ_keeps fun _ => .of_f rfl rfl
  | .zLdAMemBc .., _, _ | .zLdAMemDe .., _, _ | .zLdAMemNn .., _, _ | .zLdRMemHl .., _, _ | .zLdRMemXy .., _, _ =>
    loadZ_keeps fun _ _ => set8_keeps _ _ _
  | .zLdHlMemNn .., _, _ => loadZ16_keeps fun _ _ => .of_f rfl rfl
  | .zLdDdMemNn .., _, _ => loadZ16_keeps fun _ _ => setSS_keeps _ _ _
  | .zLdXyMemNn .., _, _ => loadZ16_keeps fun _ _ => setXY_keeps _ _ _
  | .zLdMemBcA .., _, _ | .zLdMemDeA .., _, _ | .zLdMemNnA .., _, _ | .zLdMemHlN .., _, _ | .zLdMemHlR .., _, _
  | .zLdMemXyN .., _, _ | .zLdMemXyR .., _, _ => .next (keeps_of_z (memWrite_z s _ _))
  | .zLdMemNnHl .., _, _ | .zLdMemNnDd .., _, _ | .zLdMemNnXy .., _, _ => .next (keeps_of_z (memWrite16_z s _ _))
  | .zPushQq .., _, _ | .zPushXy .., _, _ => .next (pushZ_keeps _)
  | .zPopQq .., _, _ => .next (popZ_keeps.trans (setQQ_keeps _ _ _))
  | .zPopXy .., _, _ => .next (popZ_keeps.trans (setXY_keeps _ _ _))
  | .zExMemSpHl .., _, _ => .next (onZ_keeps (exchangeSP_z _) fun _ => .of_f rfl rfl)
  | .zExMemSpXy .., _, _ => .next (onZ_keeps (exchangeSP_z _) fun _ => setXY_keeps _ _ _)
  | .zLdXyHalfN .., _, _ | .zLdXyHalfR .., _, _ => undocumented_keeps (regsZ_keeps fun _ => setHalf_keeps _ _ _ _)
  | .zLdRXyHalf .., _, _ => undocumented_keeps (regsZ_keeps fun _ => set8_keeps _ _ _)
  -- jumps, calls, returns: no flag
  | .zJr .., _, _ | .zJpHl .., _, _ | .zJpNn .., _, _ | .zJpXy .., _, _ => .next (jumpZ_keeps (.refl _) _)
  | .zJpCcNn .., _, _ => .next (choice_keeps (jumpZ_keeps (.refl _) _) (.refl _))
  | .zJrCc .., _, _ => .next (choice_keeps (cycZ_keeps (jumpZ_keeps (.refl _) _) _) (.refl _))
  | .zDjnz .., _, _ =>
    have hb : s.z.Keeps _ (s.onZ fun z => { z with b := z.b - 1 }).z := .of_f rfl rfl
    .next (choice_keeps hb (cycZ_keeps (jumpZ_keeps hb _) _))
  | .zCallNn .., _, _ | .zRst .., _, _ => .next (jumpZ_keeps (pushZ_keeps _) _)
  | .zCallCcNn .., _, _ => .next (choice_keeps (cycZ_keeps (jumpZ_keeps (pushZ_keeps _) _) _) (.refl _))
  | .zRet .., _, _ => .next popPC_keeps
  | .zRetCc .., _, _ => .next (choice_keeps (cycZ_keeps popPC_keeps _) (.refl _))
  -- 8-bit arithmetic: every flag, or all but `C`
  | .zAddAR .., _, _ | .zAddAN .., _, _ | .zAdcAR .., _, _ | .zAdcAN .., _, _ | .zSubR .., _, _ | .zSubN .., _, _
  | .zSbcAR .., _, _ | .zSbcAN .., _, _ | .zAndR .., _, _ | .zAndN .., _, _ | .zXorR .., _, _ | .zXorN .., _, _ | .zOrR .., _, _
  | .zOrN .., _, _ | .zCpR .., _, _ | .zCpN .., _, _ | .zNeg .., _, _ | .zSbcHlSs .., _, _ | .zAdcHlSs .., _, _ =>
    regsZ_keeps fun _ => .of_allFlags rfl
  | .zAddAMemHl .., _, _ | .zAdcAMemHl .., _, _ | .zSubMemHl .., _, _ | .zSbcAMemHl .., _, _ | .zAndMemHl .., _, _
  | .zXorMemHl .., _, _ | .zOrMemHl .., _, _ | .zCpMemHl .., _, _ | .zAddAMemXy .., _, _ | .zAdcAMemXy .., _, _
  | .zSubMemXy .., _, _ | .zSbcAMemXy .., _, _ | .zAndMemXy .., _, _ | .zXorMemXy .., _, _ | .zOrMemXy .., _, _
  | .zCpMemXy .., _, _ => loadZ_keeps fun _ _ => .of_allFlags rfl
  | .zAddAXyHalf .., _, _ | .zAdcAXyHalf .., _, _ | .zSubXyHalf .., _, _ | .zSbcAXyHalf .., _, _ | .zAndXyHalf .., _, _
  | .zXorXyHalf .., _, _ | .zOrXyHalf .., _, _ | .zCpXyHalf .., _, _ | .zNegCopy .., _, _ =>
    undocumented_keeps (regsZ_keeps fun _ => .of_allFlags rfl)
  | .zIncR .., _, _ => regsZ_keeps (update8_keeps inc8_keeps _)
  | .zDecR .., _, _ => regsZ_keeps (update8_keeps dec8_keeps _)
  | .zIncXyHalf .., _, _ => undocumented_keeps (regsZ_keeps (updateHalf_keeps inc8_keeps _ _))
  | .zDecXyHalf .., _, _ => undocumented_keeps (regsZ_keeps (updateHalf_keeps dec8_keeps _ _))
  | .zIncMemHl .., _, _ | .zIncMemXy .., _, _ => .next (modifyZ_keeps inc8_keeps _)
  | .zDecMemHl .., _, _ | .zDecMemXy .., _, _ => .next (modifyZ_keeps dec8_keeps _)
  -- the flags that name some of the others
  | .zDaa .., _, _ => regsZ_keeps fun z => ⟨rfl, mkF_flagN_and z.f _ _ _ _ _ _ _⟩
  | .zCpl .., _, _ => regsZ_keeps fun z => ⟨rfl, mkF_flagSZPC_and z.f _ _ _ _⟩
  | .zScf .., _, _ | .zCcf .., _, _ | .zAddHlSs .., _, _ | .zRlca .., _, _ | .zRrca .., _, _ | .zRla .., _, _ | .zRra .., _, _ =>
    regsZ_keeps fun z => ⟨rfl, mkF_flagSZP_and z.f _ _ _ _ _⟩
  | .zAddXyPp .., _, _ => regsZ_keeps fun z => ⟨special_setXY _ _ _, mkF_flagSZP_and z.f _ _ _ _ _⟩
  | .zLdAI .., _, _ | .zLdAR .., _, _ | .zBitBR .., _, _ => regsZ_keeps fun z => ⟨rfl, mkF_flagC_and z.f _ _ _ _ _ _ _⟩
  -- rotates, bits
  | .zRlcR .., _, _ | .zRrcR .., _, _ | .zRlR .., _, _ | .zRrR .., _, _ | .zSlaR .., _, _ | .zSraR .., _, _ | .zSrlR .., _, _ =>
    regsZ_keeps (update8_keeps (rotateM_keeps _) _)
  | .zSllR .., _, _ => undocumented_keeps (regsZ_keeps (update8_keeps (rotateM_keeps _) _))
  | .zRlcMemHl .., _, _ | .zRrcMemHl .., _, _ | .zRlMemHl .., _, _ | .zRrMemHl .., _, _ | .zSlaMemHl .., _, _
  | .zSraMemHl .., _, _ | .zSrlMemHl .., _, _ | .zRlcMemXy .., _, _ | .zRrcMemXy .., _, _ | .zRlMemXy .., _, _
  | .zRrMemXy .., _, _ | .zSlaMemXy .., _, _ | .zSraMemXy .., _, _ | .zSrlMemXy .., _, _ =>
    .next (modifyZ_keeps (rotateM_keeps _) _)
  | .zSllMemHl .., _, _ =>
    undocumented_keeps (meaning := fun s => .next (modifyZ s.z.hl (rotateM .sll) s)) (.next (modifyZ_keeps (rotateM_keeps _) _))
  | .zSllMemXy xy d, _, _ =>
    undocumented_keeps (meaning := fun s => .next (modifyZ (s.z.ea xy d) (rotateM .sll) s))
      (.next (modifyZ_keeps (rotateM_keeps _) _))
  | .zRotMemXyR .., _, _ => undocumented_keeps (modifyCopy_keeps (rotateM_keeps _) _ _ _)
  | .zRrd .., _, _ | .zRld .., _, _ => .next (decimalRotate_keeps _)
  | .zSetBR .., _, _ => regsZ_keeps (update8_keeps (setBit_keeps _) _)
  | .zResBR .., _, _ => regsZ_keeps (update8_keeps (resBit_keeps _) _)
  | .zSetBMemHl .., _, _ | .zSetBMemXy .., _, _ => .next (modifyZ_keeps (setBit_keeps _) _)
  | .zResBMemHl .., _, _ | .zResBMemXy .., _, _ => .next (modifyZ_keeps (resBit_keeps _) _)
  | .zSetBMemXyR .., _, _ => undocumented_keeps (modifyCopy_keeps (setBit_keeps _) _ _ _)
  | .zResBMemXyR .., _, _ => undocumented_keeps (modifyCopy_keeps (resBit_keeps _) _ _ _)
  | .zBitBMemHl .., _, _ => .next (onZ_keeps (memRead_z s _) fun z => ⟨rfl, mkF_flagC_and z.f _ _ _ _ _ _ _⟩)
  | .zBitBMemXy .., _, _ => bitIndexed_keeps _ _ _
  | .zBitBMemXyZ .., _, _ => undocumented_keeps (bitIndexed_keeps _ _ _)
  -- ports and blocks
  | .zInAN .., _, _ => .next (onZ_keeps (portIn_z s _) fun _ => .of_f rfl rfl)
  | .zInRC .., _, _ => inputC_keeps fun _ _ => inputFlags_keeps _ _ _
  | .zInFC .., _, _ => undocumented_keeps (inputC_keeps fun _ z => ⟨rfl, mkF_flagC_and z.f _ _ _ _ _ _ _⟩)
  | .zOutNA .., _, _ | .zOutCR .., _, _ => .next (keeps_of_z (portOut_z s _ _))
  | .zOutC0 .., _, _ =>
    undocumented_keeps (meaning := fun s => .next (portOut s.z.bc 0x00 s)) (.next (keeps_of_z (portOut_z s _ _)))
  | .zLdi .., _, _ | .zLdd .., _, _ => .next (blockLoad_keeps _)
  | .zCpi .., _, _ | .zCpd .., _, _ => .next (blockCompare_keeps _)
  | .zIni .., _, _ | .zInd .., _, _ => .next (blockIn_keeps _ _)
  | .zOuti .., _, _ | .zOutd .., _, _ => .next (blockOut_keeps _)
  | .zLdir .., _, _ | .zLddr .., _, _ => .next (repeatIf_keeps (blockLoad_keeps _) _)
  | .zCpir .., _, _ | .zCpdr .., _, _ => .next (repeatIf_keeps (blockCompare_keeps _) _)
  | .zInir .., _, _ | .zIndr .., _, _ => .next (repeatIf_keeps (blockIn_keeps _ _) _)
  | .zOtir .., _, _ | .zOtdr .., _, _ => .next (repeatIf_keeps (blockOut_keeps _) _)

end Sys2Proof.Machine
end

/-! What an instruction of the 6502 leaves alone of its status flags: those its rule does not name (R540). -/
section
namespace Sys2Proof.Machine

variable {s t : State} {k : Byte} {m m' : M6502}

/-- From one record to the other the status flags in `k` stay, numbered as in the byte `P_push(0)` (R50). -/
def M6502.Keeps (k : Byte) (m m' : M6502) : Prop := m'.pushedP false &&& k = m.pushedP false &&& k

theorem M6502.Keeps.refl (m : M6502) : m.Keeps k m := rfl

/-! ## The flags each computation names -/

/-- Loads, logic, increments: `N` and `Z` alone are named (R541). -/
theorem M6502.Keeps.of_vdic (hv : m'.fv = m.fv) (hd : m'.fd = m.fd) (hi : m'.fi = m.fi) (hc : m'.fc = m.fc) : m.Keeps 0x7D m' := by
  simp [M6502.Keeps, M6502.pushedP, and_eq_and_iff, hv, hd, hi, hc]

/-- Compares and shifts: `N`, `Z` and `C` are named (R580, R620 to R623). -/
theorem M6502.Keeps.of_vdi (hv : m'.fv = m.fv) (hd : m'.fd = m.fd) (hi : m'.fi = m.fi) : m.Keeps 0x7C m' := by
  simp [M6502.Keeps, M6502.pushedP, and_eq_and_iff, hv, hd, hi]

/-- Sums: `N`, `V`, `Z` and `C` are named (R576 to R579). -/
theorem M6502.Keeps.of_di (hd : m'.fd = m.fd) (hi : m'.fi = m.fi) : m.Keeps 0x3C m' := by
  simp [M6502.Keeps, M6502.pushedP, and_eq_and_iff, hd, hi]

/-- `BIT`: `N`, `V` and `Z` are named (R575). -/
theorem M6502.Keeps.of_dic (hd : m'.fd = m.fd) (hi : m'.fi = m.fi) (hc : m'.fc = m.fc) : m.Keeps 0x3D m' := by
  simp [M6502.Keeps, M6502.pushedP, and_eq_and_iff, hd, hi, hc]

/-- A pulled status byte gives all six flags; bits 5 and 4 are no flags (R571, R646). -/
theorem M6502.Keeps.of_allFlags (m m' : M6502) : m.Keeps 0x30 m' := by
  simp [M6502.Keeps, M6502.pushedP, and_eq_and_iff]

theorem setFc_keeps (b : Bool) (m : M6502) : m.Keeps 0xFE { m with fc := b } := by
  simp [M6502.Keeps, M6502.pushedP, and_eq_and_iff]

theorem setFi_keeps (b : Bool) (m : M6502) : m.Keeps 0xFB { m with fi := b } := by
  simp [M6502.Keeps, M6502.pushedP, and_eq_and_iff]

theorem setFd_keeps (b : Bool) (m : M6502) : m.Keeps 0xF7 { m with fd := b } := by
  simp [M6502.Keeps, M6502.pushedP, and_eq_and_iff]

theorem setFv_keeps (b : Bool) (m : M6502) : m.Keeps 0xBF { m with fv := b } := by
  simp [M6502.Keeps, M6502.pushedP, and_eq_and_iff]

/-! ## The shared operations -/

/-- The result `r` is a next state in which the 6502 keeps the flags in `k`. -/
def KeepsM (k : Byte) (s : State) (r : Result) : Prop := ∃ t, r = .next t ∧ s.m.Keeps k t.m

theorem KeepsM.next (h : s.m.Keeps k t.m) : KeepsM k s (.next t) := ⟨t, rfl, h⟩

theorem KeepsM.keeps {r : Result} (h : KeepsM k s r) (hr : r = .next t) : s.m.Keeps k t.m := by
  obtain ⟨u, hu, hk⟩ := h
  cases hu.symm.trans hr
  exact hk

theorem KeepsM.of_m (h : t.m = s.m) : KeepsM k s (.next t) := .next (h ▸ .refl _)

theorem regsM_keeps {f : M6502 → M6502} (h : ∀ m : M6502, m.Keeps k (f m)) : KeepsM k s (regsM f s) := .next (h _)

theorem readM_keeps {f : Byte → M6502 → M6502} {mode : AddrMode} (h : ∀ v (m : M6502), m.Keeps k (f v m)) :
    KeepsM k s (.next (readM mode f s)) := by
  have hcyc (n : Nat) (v : Byte) : s.m.Keeps k (f v { s.m with cycLine := s.m.cycLine + n }) := h v _
  refine .next ?_
  simp only [readM]
  split
  · simpa only [State.onM_m, memRead_m, cycM_m, addressOf_m] using hcyc _ _
  · simpa only [State.onM_m, memRead_m, addressOf_m] using h _ s.m

theorem modifyM_keeps {op : Byte → M6502 → Byte × M6502} {mode : AddrMode} (h : ∀ v (m : M6502), m.Keeps k (op v m).2) :
    KeepsM k s (.next (modifyM mode op s)) := by
  refine .next ?_
  simpa only [modifyM, State.onM_m, memRead_m, addressOf_m] using h _ s.m

theorem pushM_keeps (v : Byte) : KeepsM k s (.next (pushM v s)) := by
  refine .next ?_
  rw [pushM_m]
  rfl

/-- A pull and what it loads (R570, R571). -/
theorem pullM_keeps {f : Byte → M6502 → M6502} (h : ∀ v (m : M6502), m.Keeps k (f v m)) :
    KeepsM k s (.next ((pullM s).2.onM (f (pullM s).1))) := by
  refine .next ?_
  rw [State.onM_m, pullM_m]
  exact h _ { s.m with s := s.m.s + 1 }

theorem setPc_keeps (h : s.m.Keeps k t.m) (a : Word) : s.m.Keeps k (t.onM fun m => { m with pc := a }).m := h

theorem branchM_keeps (cond : Bool) (b : Byte) : KeepsM k s (.next (branchM cond b s)) := by
  refine .next ?_
  unfold branchM
  split <;> rfl

theorem vectorM_keeps (ret : Word) (b : Bool) (vec : Word) : s.m.Keeps 0xFB (vectorM ret b vec s).m := by
  simp only [vectorM, State.onM_m, memRead16_m, pushM_m, pushM16_m]
  exact setFi_keeps true s.m

@[simp] theorem indirectTarget_m (ptr : Word) : (indirectTarget ptr s).2.m = s.m := by simp [indirectTarget]

/-! ## The instructions -/

/-- Every instruction of the 6502 keeps the flags its rule does not name: one arm per form and set of flags (spec/46_m6502_a.md,
spec/47_m6502_b.md). -/
theorem exec_keepsM : ∀ i : Instr, i.cpu = .m6502 → KeepsM (keptStatus i) s (exec i s)
  | .mNop .., _ => .of_m rfl
  | .mIllegal .., _ => .of_m (illegalHook_m s _ _)
  | .mOraImm .., _ | .mAndImm .., _ | .mEorImm .., _ | .mLdaImm .., _ | .mLdxImm .., _ | .mLdyImm .., _ | .mTax .., _
  | .mTay .., _ | .mTxa .., _ | .mTya .., _ | .mTsx .., _ | .mInx .., _ | .mIny .., _ | .mDex .., _ | .mDey .., _ =>
    regsM_keeps fun _ => .of_vdic rfl rfl rfl rfl
  | .mCmpImm .., _ | .mCpxImm .., _ | .mCpyImm .., _ => regsM_keeps fun _ => .of_vdi rfl rfl rfl
  | .mAslA .., _ | .mLsrA .., _ | .mRolA .., _ | .mRorA .., _ => regsM_keeps fun _ => .of_vdi rfl rfl rfl
  | .mAdcImm .., _ | .mSbcImm .., _ => regsM_keeps fun _ => .of_di rfl rfl
  | .mClc .., _ | .mSec .., _ => regsM_keeps fun _ => setFc_keeps _ _
  | .mCli .., _ | .mSei .., _ => regsM_keeps fun _ => setFi_keeps _ _
  | .mCld .., _ | .mSed .., _ => regsM_keeps fun _ => setFd_keeps _ _
  | .mClv .., _ => regsM_keeps fun _ => setFv_keeps _ _
  | .mTxs .., _ | .mJmpAbs .., _ => regsM_keeps fun _ => rfl
  | .mOraIzx .., _ | .mOraZp .., _ | .mOraAbs .., _ | .mOraIzy .., _ | .mOraZpX .., _ | .mOraAbsY .., _ | .mOraAbsX .., _
  | .mAndIzx .., _ | .mAndZp .., _ | .mAndAbs .., _ | .mAndIzy .., _ | .mAndZpX .., _ | .mAndAbsY .., _ | .mAndAbsX .., _
  | .mEorIzx .., _ | .mEorZp .., _ | .mEorAbs .., _ | .mEorIzy .., _ | .mEorZpX .., _ | .mEorAbsY .., _ | .mEorAbsX .., _
  | .mLdaIzx .., _ | .mLdaZp .., _ | .mLdaAbs .., _ | .mLdaIzy .., _ | .mLdaZpX .., _ | .mLdaAbsY .., _ | .mLdaAbsX .., _
  | .mLdxZp .., _ | .mLdxAbs .., _ | .mLdxZpY .., _ | .mLdxAbsY .., _ | .mLdyZp .., _ | .mLdyAbs .., _ | .mLdyZpX .., _
  | .mLdyAbsX .., _ => readM_keeps fun _ _ => .of_vdic rfl rfl rfl rfl
  | .mCmpIzx .., _ | .mCmpZp .., _ | .mCmpAbs .., _ | .mCmpIzy .., _ | .mCmpZpX .., _ | .mCmpAbsY .., _ | .mCmpAbsX .., _
  | .mCpxZp .., _ | .mCpxAbs .., _ | .mCpyZp .., _ | .mCpyAbs .., _ => readM_keeps fun _ _ => .of_vdi rfl rfl rfl
  | .mAdcIzx .., _ | .mAdcZp .., _ | .mAdcAbs .., _ | .mAdcIzy .., _ | .mAdcZpX .., _ | .mAdcAbsY .., _ | .mAdcAbsX .., _
  | .mSbcIzx .., _ | .mSbcZp .., _ | .mSbcAbs .., _ | .mSbcIzy .., _ | .mSbcZpX .., _ | .mSbcAbsY .., _ | .mSbcAbsX .., _ =>
    readM_keeps fun _ _ => .of_di rfl rfl
  | .mBitZp .., _ | .mBitAbs .., _ => readM_keeps fun _ _ => .of_dic rfl rfl rfl
  | .mStaIzx .., _ | .mStaZp .., _ | .mStaAbs .., _ | .mStaIzy .., _ | .mStaZpX .., _ | .mStaAbsY .., _ | .mStaAbsX .., _
  | .mStxZp .., _ | .mStxAbs .., _ | .mStxZpY .., _ | .mStyZp .., _ | .mStyAbs .., _ | .mStyZpX .., _ => .of_m (storeM_m s _ _)
  | .mIncZp .., _ | .mIncAbs .., _ | .mIncZpX .., _ | .mIncAbsX .., _ | .mDecZp .., _ | .mDecAbs .., _ | .mDecZpX .., _
  | .mDecAbsX .., _ => modifyM_keeps fun _ _ => .of_vdic rfl rfl rfl rfl
  | .mAslZp .., _ | .mAslAbs .., _ | .mAslZpX .., _ | .mAslAbsX .., _ | .mLsrZp .., _ | .mLsrAbs .., _ | .mLsrZpX .., _
  | .mLsrAbsX .., _ | .mRolZp .., _ | .mRolAbs .., _ | .mRolZpX .., _ | .mRolAbsX .., _ | .mRorZp .., _ | .mRorAbs .., _
  | .mRorZpX .., _ | .mRorAbsX .., _ => modifyM_keeps fun _ _ => .of_vdi rfl rfl rfl
  | .mPha .., _ | .mPhp .., _ => pushM_keeps _
  | .mPla .., _ => pullM_keeps fun _ _ => .of_vdic rfl rfl rfl rfl
  | .mPlp .., _ => pullM_keeps fun _ _ => .of_allFlags _ _
  | .mBpl .., _ | .mBmi .., _ | .mBvc .., _ | .mBvs .., _ | .mBcc .., _ | .mBcs .., _ | .mBne .., _ | .mBeq .., _ =>
    branchM_keeps _ _
  | .mJmpInd .., _ => .next (setPc_keeps (by rw [indirectTarget_m]; rfl) _)
  | .mJsr .., _ => .next (setPc_keeps (by rw [pushM16_m]; rfl) _)
  | .mRts .., _ => .next (setPc_keeps (by rw [pullM16_m]; rfl) _)
  | .mBrk .., _ => .next (vectorM_keeps _ _ _)
  | .mRti .., _ => .next (.of_allFlags _ _)

end Sys2Proof.Machine
end

/-! The flags and the special registers over every instruction: what `exec_keepsZ` and `exec_keepsM` say, and the writers of special
registers one by one. -/
section
namespace Sys2Proof.Machine

variable {s t : State} {c : Cpu} {z z' : Z80}

/-- A CPU leaves the record of the other variant alone. -/
theorem CpuRuns.otherRecord (h : CpuRuns s c t) : (c = .m6502 → t.z = s.z) ∧ (c = .z80 → t.m = s.m) := by
  induction h with
  | refl => exact ⟨fun _ => rfl, fun _ => rfl⟩
  | onZ _ f ih => exact ⟨nofun, ih.2⟩
  | onM _ f ih => exact ⟨ih.1, nofun⟩
  | emit _ e ih => exact ih
  | tick _ ih => exact ih
  | read _ a ih => simpa using ih
  | write _ a v ih => simpa using ih
  | input _ p ih => simpa using ih
  | output _ p v ih => simpa using ih

theorem exec_z_of_m6502 {i : Instr} (hc : i.cpu = .m6502) (h : exec i s = .next t) : t.z = s.z :=
  ((exec_completes i).runs h).otherRecord.1 hc

theorem exec_m_of_z80 {i : Instr} (hc : i.cpu = .z80) (h : exec i s = .next t) : t.m = s.m :=
  ((exec_completes i).runs h).otherRecord.2 hc

/-! ## The writers of special registers -/

/-- Which special registers the instruction `i` leaves alone (R33, R39 to R42, R44, R45). -/
def SpecialFrame (i : Instr) (z z' : Z80) : Prop :=
  (i ≠ .zExAfAf → z'.aAlt = z.aAlt ∧ z'.fAlt = z.fAlt) ∧
  (i ≠ .zExx → z'.bAlt = z.bAlt ∧ z'.cAlt = z.cAlt ∧ z'.dAlt = z.dAlt ∧ z'.eAlt = z.eAlt ∧ z'.hAlt = z.hAlt ∧
    z'.lAlt = z.lAlt) ∧
  (i ≠ .zLdIA → z'.i = z.i) ∧
  (i ≠ .zLdRA → z'.r = z.r) ∧
  (i ∉ [.zDi, .zEi, .zRetn, .zReti] → (∀ y, i ≠ .zRetnCopy y) → z'.iff1 = z.iff1) ∧
  (i ∉ [.zDi, .zEi] → z'.iff2 = z.iff2) ∧
  (i ∉ [.zIm0, .zIm1, .zIm2, .zIm0Copy4E, .zIm0Copy66, .zIm0Copy6E, .zIm1Copy, .zIm2Copy] → z'.im = z.im) ∧
  (i ≠ .zHalt → z'.halted = z.halted) ∧
  (i ≠ .zEi → z'.grace = z.grace ∧ z'.ibackup = z.ibackup)

theorem SpecialFrame.of_special {i : Instr} (h : z'.special = z.special) : SpecialFrame i z z' := by
  simp only [Z80.special, Z80.mk.injEq, true_and] at h
  simp [SpecialFrame, h]

theorem returnZ_z : (returnZ s).z = { s.z with pc := (popZ s).1, sp := s.z.sp + 1 + 1, iff1 := s.z.iff2 } := by
  simp [returnZ, popPC]

/-- An undocumented encoding runs its meaning, or leaves the record alone (R184, R500). -/
theorem undocumented_next {i : Instr} {meaning : State → Result} (h : undocumented i meaning s = .next t) :
    meaning s = .next t ∨ t.z = s.z := by
  unfold undocumented at h
  split at h
  · exact .inl h
  · cases h
    exact .inr (illegalZ_z s i)

/-- The copies of `IM` write the interrupt mode and nothing else (R507). -/
theorem imCopy_frame (i : Instr) (im : IntMode) (hi : i ∈ [.zIm0Copy4E, .zIm0Copy66, .zIm0Copy6E, .zIm1Copy, .zIm2Copy])
    (h : undocumented i (regsZ fun z => { z with im := im }) s = .next t) :
    SpecialFrame i s.z t.z ∧ t.z.f &&& keptFlags i = s.z.f &&& keptFlags i := by
  have hother : SpecialFrame i s.z { s.z with im := t.z.im } := by simp_all [SpecialFrame]
  have hz : t.z = { s.z with im := t.z.im } := by
    obtain hm | hz := undocumented_next h
    · cases hm
      rfl
    · rw [hz]
  rw [hz]
  exact ⟨hother, rfl⟩

/-- Each writer changes the special registers its rule names, and no flag but by `EX AF,AF'`. -/
theorem writers_frame : ∀ i : Instr, writesSpecial i = true → exec i s = .next t →
    SpecialFrame i s.z t.z ∧ t.z.f &&& keptFlags i = s.z.f &&& keptFlags i
  | .zExAfAf, _, h => by
    cases h
    exact ⟨by simp [SpecialFrame], BitVec.and_zero.trans BitVec.and_zero.symm⟩
  | .zExx, _, h | .zLdIA, _, h | .zLdRA, _, h | .zDi, _, h | .zEi, _, h | .zIm0, _, h | .zIm1, _, h
  | .zIm2, _, h | .zHalt, _, h => by
    cases h
    exact ⟨by simp [SpecialFrame], rfl⟩
  | .zRetn, _, h | .zReti, _, h => by
    cases h
    simp [SpecialFrame, returnZ_z]
  | .zRetnCopy y, _, h => by
    obtain hr | hz := undocumented_next (i := .zRetnCopy y) (meaning := fun s => .next (returnZ s)) h
    · cases hr
      simp [SpecialFrame, returnZ_z]
    · simp [SpecialFrame, hz]
  | .zIm0Copy4E, _, h => imCopy_frame .zIm0Copy4E .im0 (by decide) h
  | .zIm0Copy66, _, h => imCopy_frame .zIm0Copy66 .im0 (by decide) h
  | .zIm0Copy6E, _, h => imCopy_frame .zIm0Copy6E .im0 (by decide) h
  | .zIm1Copy, _, h => imCopy_frame .zIm1Copy .im1 (by decide) h
  | .zIm2Copy, _, h => imCopy_frame .zIm2Copy .im2 (by decide) h

/-! ## Every instruction -/

/-- What an instruction leaves alone of the Z80 record, whatever its variant. -/
theorem exec_frame {i : Instr} (h : exec i s = .next t) :
    SpecialFrame i s.z t.z ∧ t.z.f &&& keptFlags i = s.z.f &&& keptFlags i := by
  cases hc : i.cpu with
  | m6502 =>
    rw [exec_z_of_m6502 hc h]
    exact ⟨.of_special rfl, rfl⟩
  | z80 =>
    cases hw : writesSpecial i with
    | true => exact writers_frame i hw h
    | false =>
      have hk := (exec_keepsZ i hc hw).keeps h
      exact ⟨.of_special hk.special, hk.flags⟩

/-- Settles O14: the first half of `exec_frame`. -/
theorem specialRegistersChangeOnlyByTheirInstructions : Obligations.SpecialRegistersChangeOnlyByTheirInstructions :=
  fun _ _ _ h => (exec_frame h).1

/-- Settles O13: the second half of `exec_frame` for `F`, and `exec_keepsM` for `P`. -/
theorem instructionsKeepTheFlagsTheyDoNotName : Obligations.InstructionsKeepTheFlagsTheyDoNotName := by
  intro i s t h
  refine ⟨(exec_frame h).2, ?_⟩
  cases hc : i.cpu with
  | z80 => rw [exec_m_of_z80 hc h]
  | m6502 => exact (exec_keepsM i hc).keeps h

end Sys2Proof.Machine
end

/-! The grace window (R44, R838): an instruction other than `EI` leaves it as it was, no request and no driver call opens it, and the
end of the instruction after `EI` closes it. -/
section
namespace Sys2Proof.Machine

variable {s t : State}

/-! ## The 6502 has no `EI` (R203) -/

/-- Whatever the decoder answers, it is not `EI`. -/
def NotEi (r : Except DecodeError Instr) : Prop := r ≠ .ok .zEi

theorem notEi_ok (i : Instr) : NotEi (.ok i) ↔ i ≠ .zEi := by simp [NotEi]

theorem notEi_need1 {rest : List Byte} {k : Byte → Instr} (h : ∀ n, k n ≠ .zEi) : NotEi (need1 rest k) := by
  cases rest with
  | nil => exact nofun
  | cons n rest => exact (notEi_ok _).2 (h n)

theorem notEi_need16 {rest : List Byte} {k : Word → Instr} (h : ∀ n, k n ≠ .zEi) : NotEi (need16 rest k) := by
  rcases rest with _ | ⟨lo, _ | ⟨hi, rest⟩⟩
  · exact nofun
  · exact nofun
  · exact (notEi_ok _).2 (h _)

/-- No entry of the matrix of R203 is `EI`. -/
theorem decodeM6502_notEi (bytes : List Byte) : NotEi (decodeM6502 bytes) := by
  cases bytes with
  | nil => exact nofun
  | cons op rest =>
    unfold decodeM6502 decodeM0 decodeM2 decodeM4 decodeM6 decodeM8 decodeMA decodeMC decodeME
    dsimp only
    repeat' split
    all_goals simp only [notEi_ok, notEi_need1, notEi_need16, ne_eq, reduceCtorEq, not_false_eq_true, implies_true]

/-- A fetch on the 6502 finds no `EI`. -/
theorem fetch_m6502_ne_ei (hc : s.cfg.cpu = .m6502) {i : Instr} (hf : fetch s = (some i, t)) : i ≠ .zEi := by
  obtain ⟨read, hread⟩ := fetchFrom_decodes s.cfg.cpu s.pc 4 [] s (congrArg Prod.fst hf)
  rw [hc] at hread
  rintro rfl
  exact decodeM6502_notEi _ hread

/-! ## What keeps the window -/

/-- `EI` alone opens the window (R418). -/
theorem exec_grace {i : Instr} (hi : i ≠ .zEi) (h : exec i s = .next t) : t.z.grace = s.z.grace := by
  obtain ⟨⟨-, -, -, -, -, -, -, -, hgrace⟩, -⟩ := exec_frame h
  exact (hgrace hi).1

/-- A request taken leaves the window as it was (R832 to R836). -/
theorem intEntry_grace {v : Byte} (h : intEntry v s = .ok t) : t.z.grace = s.z.grace := by
  unfold intEntry at h
  split at h
  · split at h
    · cases h
      simp [entryRegs]
    · cases h
  · cases h
    simp [entryRegs]
  · cases h
    simp [entryRegs]

/-- A sample point and what follows it leave the window as it was, whether they go on or stop (R830, R842, R857). -/
theorem atSample_grace {k : State → State} (h : atSample (accept s) k = .next t) (hk : ∀ u, (k u).z.grace = u.z.grace) :
    t.z.grace = s.z.grace := by
  obtain ⟨u, hu, rfl⟩ | ⟨u, hu, rfl⟩ := atSample_next h
  · rw [hk]
    cases hc : s.cfg.cpu with
    | z80 =>
      obtain ⟨-, ⟨-, rfl⟩ | ⟨-, -, v, -, hentry⟩ | ⟨-, -, rfl⟩⟩ := acceptZ_ok (accept_z80 hc ▸ hu)
      · simp [nmiEntry, entryRegs]
      · exact (intEntry_grace hentry).trans rfl
      · rfl
    | m6502 =>
      obtain ⟨-, ⟨-, rfl⟩ | ⟨-, -, -, rfl⟩ | ⟨-, -, rfl⟩⟩ := acceptM_ok (accept_m6502 hc ▸ hu)
      · rw [entry6502_z]
      · rw [entry6502_z]
      · rfl
  · obtain ⟨-, rfl⟩ := accept_stop hu
    rfl

/-! ## The driver -/

theorem resetMachine_grace (h : s.z.grace = false) : (resetMachine s).z.grace = false := by
  cases hc : s.cfg.cpu with
  | z80 =>
    rw [resetMachine_z80 hc]
    rfl
  | m6502 =>
    rw [resetMachine_m6502 hc]
    simpa using h

/-- A restored state has the window closed (R912, `BlobLegal`). -/
theorem runAction_grace (h : s.z.grace = false) {act : DriverAction} (ha : ∀ b, act = .restore b → BlobLegal s.cfg b) :
    (runAction act s).z.grace = false := by
  cases act with
  | reset => exact resetMachine_grace h
  | save => exact h
  | restore b =>
    obtain ⟨-, -, hb⟩ := ha b rfl
    exact hb
  | writeRegister index value => simpa [runAction] using h
  | stepScanline =>
    rw [runAction, stepScanline_keeps]
    exact h
  | call c => simpa [runAction] using h

theorem runActions_grace {acts : List DriverAction} (h : s.z.grace = false) (ha : ActionsLegal s.cfg acts) :
    (runActions acts s).z.grace = false := by
  induction acts generalizing s with
  | nil => exact h
  | cons act acts ih =>
    have hcfg : (runAction act s).cfg = s.cfg := runAction_cfg act
    refine ih (runAction_grace h (ha act List.mem_cons_self)) ?_
    rw [hcfg]
    exact fun a hm => ha a (List.mem_cons_of_mem _ hm)

theorem startIteration_grace (hi : InputsLegal s) (h : s.z.grace = false) : (startIteration s).z.grace = false := by
  unfold startIteration
  split
  · exact h
  next line rest hl => exact runActions_grace (s := { s with lines := rest }) h (hi line (hl ▸ List.mem_cons_self))

theorem whileStopped_grace (hi : InputsLegal s) (h : s.z.grace = false) : (whileStopped s).z.grace = false := by
  unfold whileStopped
  split
  · exact h
  · exact startIteration_grace hi h

theorem scanlineHalf_grace : (scanlineHalf s).z.grace = s.z.grace := by
  simp only [scanlineHalf, routeIrq_z]
  rw [stepScanline_keeps]

/-! ## `Execute` -/

theorem GraceLegal.of_closed (h : s.z.grace = false) : GraceLegal s := fun hg => absurd hg (by simp [h])

theorem executeEntry_grace (h : executeEntry s = .next t) : t.z.grace = s.z.grace := by
  unfold executeEntry at h
  split at h
  next hc =>
    rw [← accept_z80 hc] at h
    exact atSample_grace h fun _ => rfl
  next hc =>
    rw [← accept_m6502 (s := s.onM _) hc] at h
    exact (atSample_grace h fun _ => rfl).trans rfl

/-- The end of the window leaves it closed, with or without a sample point (R829, R830). -/
theorem graceEnd_grace (hc : s.cfg.cpu = .z80) (h : graceEnd s = .next t) : t.z.grace = false := by
  unfold graceEnd at h
  split at h
  · rw [← accept_z80 (s := closeWindow s) hc] at h
    exact atSample_grace h fun _ => rfl
  · cases h
    rfl

/-- A fetch changes neither configuration, phase nor the Z80 record (R132). -/
theorem fetch_keeps {i : Instr} {s1 : State} (hf : fetch s = (some i, s1)) : s1.cfg = s.cfg ∧ s1.phase = s.phase ∧ s1.z = s.z := by
  have hkeeps := fetchFrom_keeps s.cfg.cpu s.pc 4 [] s
  rw [show fetchFrom s.cfg.cpu s.pc 4 [] s = (some i, s1) from hf] at hkeeps
  obtain ⟨hz, -, hcfg, -, -, hphase, -⟩ := hkeeps
  exact ⟨hcfg, hphase, hz⟩

/-- `EI` opens the window with the forced counter (R418, R838). -/
theorem execEi_opens (h : exec .zEi s = .next t) :
    t.cfg = s.cfg ∧ t.phase = s.phase ∧ t.z.icount = 1 ∧ t.z.halted = s.z.halted := by
  cases h
  exact ⟨rfl, rfl, rfl, rfl⟩

/-- One instruction of the Z80 inside `Execute` (R829). -/
theorem stepZ80_graceLegal (hc : s.cfg.cpu = .z80) (hp : s.phase = .execLoop) (hg : GraceLegal s) (h : stepZ80 s = .next t) :
    GraceLegal t := by
  obtain ⟨hhalt, rfl⟩ | ⟨hhalt, i, s1, u, hf, he, hfinish⟩ := stepZ80_next h
  · refine .of_closed (Bool.eq_false_iff.2 fun hopen => ?_)
    obtain ⟨-, -, -, hrun⟩ := hg hopen
    simp [hhalt] at hrun
  · obtain ⟨hcfg, hphase, hz⟩ := fetch_keeps hf
    have hgrace : (beginZ i s1).z.grace = s.z.grace := (congrArg Z80.grace hz :)
    have hhalted : (beginZ i s1).z.halted = s.z.halted := (congrArg Z80.halted hz :)
    obtain ⟨rfl, hclosed⟩ | ⟨-, -, hend⟩ := hfinish
    · by_cases hi : i = .zEi
      · subst hi
        obtain ⟨hcfg', hphase', hcount, hhalted'⟩ := execEi_opens he
        exact fun _ => ⟨(congrArg Config.cpu (hcfg'.trans hcfg)).trans hc, (hphase'.trans hphase).trans hp, hcount,
          (hhalted'.trans hhalted).trans hhalt⟩
      · refine .of_closed ?_
        rw [exec_grace hi he, hgrace]
        exact hclosed.resolve_right hi
    · have hu : u.cfg = s.cfg := ((exec_completes i).runs he).keepsVdpLegal.cfg.trans hcfg
      exact .of_closed (graceEnd_grace (hu ▸ hc) hend)

/-- No instruction of the 6502 touches the window of the Z80 record (R842). -/
theorem stepM6502_grace (hc : s.cfg.cpu = .m6502) (h : stepM6502 s = .next t) : t.z.grace = s.z.grace := by
  obtain ⟨i, s1, hf, he⟩ := stepM6502_next h
  obtain ⟨-, -, hz⟩ := fetch_keeps hf
  exact (exec_grace (fetch_m6502_ne_ei hc hf) he).trans (congrArg Z80.grace hz)

theorem executeLoop_graceLegal (hp : s.phase = .execLoop) (hg : GraceLegal s) (h : executeLoop s = .next t) : GraceLegal t := by
  cases hc : s.cfg.cpu with
  | z80 =>
    rw [executeLoop_z80 hc, ← accept_z80 hc] at h
    split at h
    · exact stepZ80_graceLegal hc hp hg h
    next hcount =>
      refine .of_closed ((atSample_grace h fun _ => rfl).trans (Bool.eq_false_iff.2 fun hopen => ?_))
      obtain ⟨-, -, hone, -⟩ := hg hopen
      omega
  | m6502 =>
    have hclosed : s.z.grace = false := Bool.eq_false_iff.2 fun hopen => nomatch hc.symm.trans (hg hopen).1
    have hpoll : (poll s).cfg.cpu = .m6502 := (congrArg Config.cpu poll_keepsVdpLegal.cfg).trans hc
    rw [executeLoop_m6502 hc, ← accept_m6502 hpoll] at h
    split at h
    · exact .of_closed ((stepM6502_grace hc h).trans hclosed)
    · refine .of_closed ((atSample_grace h fun _ => rfl).trans ?_)
      rw [poll_keeps]
      exact hclosed

/-! ## The step -/

/-- Outside the loop of `Execute` a legal window is closed. -/
theorem GraceLegal.closed (hg : GraceLegal s) (hp : s.phase ≠ .execLoop) : s.z.grace = false :=
  Bool.eq_false_iff.2 fun hopen => hp (hg hopen).2.1

theorem step_graceLegal (hi : InputsLegal s) (hg : GraceLegal s) (h : step s = .next t) : GraceLegal t := by
  cases hp : s.phase with
  | iterStart =>
    cases (step_iterStart hp).symm.trans h
    exact .of_closed (startIteration_grace hi (hg.closed (by simp [hp])))
  | execEntry => exact .of_closed ((executeEntry_grace (step_execEntry hp ▸ h)).trans (hg.closed (by simp [hp])))
  | execLoop => exact executeLoop_graceLegal hp hg (step_execLoop hp ▸ h)
  | scanline =>
    cases (step_scanline hp).symm.trans h
    exact .of_closed (scanlineHalf_grace.trans (hg.closed (by simp [hp])))
  | stopped =>
    cases (step_stopped hp).symm.trans h
    exact .of_closed (whileStopped_grace hi (hg.closed (by simp [hp])))

/-- Settles O10: phase by phase (`step_graceLegal`); the inputs stay legal since a step adds no line. -/
theorem stepKeepsTheGraceWindow : Obligations.StepKeepsTheGraceWindow := by
  intro s t hi hg h
  have hk := step_keeps h
  exact ⟨hi.mono hk.cfg hk.lines, step_graceLegal hi hg h⟩

end Sys2Proof.Machine
end

/-! A step inside `Execute` (R829, R842) and what the fetched instruction costs: which table entry is charged (R930 to R934, R936), and
that the default tables hold the cost of the opcode table's row. -/
section
namespace Sys2Proof.Machine

variable {s t s1 : State} {i : Instr} {cfg : Config}

/-! ## The step -/

theorem isEi_eq_false (hi : i ≠ .zEi) : isEi i = false := by
  unfold isEi
  split
  · exact absurd rfl hi
  · rfl

/-- With the window closed, or after `EI`, nothing follows the meaning (R829). -/
theorem finishZ_of_closed {window : Bool} (h : window = false ∨ i = .zEi) (r : Result) : finishZ window i r = r := by
  have hw : (window && !isEi i) = false := by
    obtain rfl | rfl := h
    · rfl
    · exact Bool.and_false window
  cases r <;> simp [finishZ, hw]

theorem finishZ_of_open (hi : i ≠ .zEi) : finishZ true i (.next t) = graceEnd t := by
  simp [finishZ, isEi_eq_false hi]

/-- A step of the Z80 inside `Execute`, with budget left and no halt (R829). -/
theorem step_z80 (hp : s.phase = .execLoop) (hf : fetch s = (some i, s1)) (hc : s.cfg.cpu = .z80) (hcount : 0 < s.z.icount)
    (hhalt : s.z.halted = false) : step s = finishZ s.z.grace i (exec i (beginZ i s1)) := by
  rw [step_execLoop hp, executeLoop_z80 hc, if_pos hcount]
  simp [stepZ80, hhalt, hf]

/-- A step of the 6502 inside `Execute`, with budget left (R842). -/
theorem step_m6502 (hp : s.phase = .execLoop) (hf : fetch s = (some i, s1)) (hc : s.cfg.cpu = .m6502)
    (hcount : s.m.cycLine < s.quota) : step s = exec i (beginM i s1) := by
  rw [step_execLoop hp, executeLoop_m6502 hc, if_pos hcount]
  simp [stepM6502, hf]

/-! ## The entry charged -/

theorem isPrefix_iff : i.isPrefix = true ↔ (∃ xy b, i = .zPrefix xy b) ∨ ∃ xy xy', i = .zPrefixPrefix xy xy' := by
  refine ⟨fun h => ?_, ?_⟩
  · unfold Instr.isPrefix at h
    split at h
    · exact .inl ⟨_, _, rfl⟩
    · exact .inr ⟨_, _, rfl⟩
    · cases h
  · rintro (⟨xy, b, rfl⟩ | ⟨xy, xy', rfl⟩) <;> rfl

theorem illegalUnder_iff :
    illegalUnder cfg i = true ↔ (∃ op, i = .zIllegalEd op) ∨ (i.isUndocumented = true ∧ cfg.z80Undoc = false) := by
  unfold illegalUnder
  split
  next op => simp
  next hne =>
    have hno : ¬∃ op, i = .zIllegalEd op := fun ⟨op, h⟩ => hne op h
    simp [hno]

theorem encode_ne_nil (i : Instr) : encode i ≠ [] := by
  cases i <;> exact List.cons_ne_nil _ _

/-- The bytes that open a page of their own, `CB`, `ED`, `DD` and `FD`, advance `R` a second time (R40). -/
theorem opcodeBytes_eq (h : i.isPrefix = false) {b0 : Byte} {rest : List Byte} (he : encode i = b0 :: rest) :
    opcodeBytes i = if b0 ∈ [0xCB, 0xED, 0xDD, 0xFD] then 2 else 1 := by
  simp only [opcodeBytes, h, he, Bool.false_eq_true, if_false, List.mem_cons, List.not_mem_nil, or_false]

section Pages
variable (table : CycTables) (rest : List Byte)

theorem pageCost_main {b0 : Byte} (h : b0 ∉ [0xCB, 0xED, 0xDD, 0xFD]) : pageCost table (b0 :: rest) = costAt table.main b0 := by
  simp only [List.mem_cons, List.not_mem_nil, or_false, not_or] at h
  obtain ⟨hcb, hed, hdd, hfd⟩ := h
  simp only [pageCost, hcb, hed, hdd, hfd, or_self, if_false]

theorem pageCost_cb : pageCost table (0xCB :: rest) = costAt table.cb (rest.getD 0 0) := rfl

theorem pageCost_ed : pageCost table (0xED :: rest) = costAt table.ed (rest.getD 0 0) := rfl

theorem pageCost_xycb {px : Byte} (hx : px ∈ [0xDD, 0xFD]) (h : rest.getD 0 0 = 0xCB) :
    pageCost table (px :: rest) = costAt table.xycb (rest.getD 2 0) := by
  simp only [List.mem_cons, List.not_mem_nil, or_false] at hx
  obtain rfl | rfl := hx <;> exact if_pos h

theorem pageCost_xy {px : Byte} (hx : px ∈ [0xDD, 0xFD]) (h : rest.getD 0 0 ≠ 0xCB) :
    pageCost table (px :: rest) = costAt table.xy (rest.getD 0 0) := by
  simp only [List.mem_cons, List.not_mem_nil, or_false] at hx
  obtain rfl | rfl := hx <;> exact if_neg h

end Pages

theorem costM6502_illegal (op : Byte) : costM6502 cfg (.mIllegal op) = cfg.cyc.m6502Illegal := rfl

theorem costM6502_legal (h : ∀ op, i ≠ .mIllegal op) :
    costM6502 cfg i = cfg.cyc.m6502[((encode i)[0]?.getD 0).toNat]?.getD 0 := by
  unfold costM6502
  split
  next op => exact absurd rfl (h op)
  next => simp [costAt]

/-! ## The default tables -/

theorem px_mem (xy : XYReg) : xy.px ∈ [0xDD, 0xFD] := by cases xy <;> decide

/-! The four quarters of the `DD CB` and `FD CB` pages each have one cost (R934). -/

theorem xycb_rotate : ∀ y z : BitVec 3, costAt CycTables.default.xycb (0b00#2 ++ y ++ z) = 23 := by decide
theorem xycb_bit : ∀ y z : BitVec 3, costAt CycTables.default.xycb (0b01#2 ++ y ++ z) = 20 := by decide
theorem xycb_res : ∀ y z : BitVec 3, costAt CycTables.default.xycb (0b10#2 ++ y ++ z) = 23 := by decide
theorem xycb_set : ∀ y z : BitVec 3, costAt CycTables.default.xycb (0b11#2 ++ y ++ z) = 23 := by decide

/-- A Z80 instruction whose cost is an entry of a page, undocumented encodings being allowed (R500, R502, R510). -/
def pagedZ80 : Instr → Bool
  | .zPrefix .. | .zPrefixPrefix .. | .zIllegalEd .. => false
  | i => decide (i.cpu = .z80)

/-- The default tables hold, at the entry of its encoding, the cost of each row of the Z80: one arm per set of register codes in the
opcode byte. -/
theorem pageCost_default : ∀ i : Instr, pagedZ80 i = true → pageCost CycTables.default (encode i) = i.statedCost
  | .zDjnz .., _ | .zJr .., _ | .zLdMemNnHl .., _ | .zLdMemNnA .., _ | .zLdHlMemNn .., _ | .zLdAMemNn .., _ | .zLdMemHlN .., _
  | .zAddAN .., _ | .zAdcAN .., _ | .zSubN .., _ | .zSbcAN .., _ | .zAndN .., _ | .zXorN .., _ | .zOrN .., _ | .zCpN .., _
  | .zJpNn .., _ | .zOutNA .., _ | .zInAN .., _ | .zCallNn .., _ | .zNop .., _ | .zExAfAf .., _ | .zLdMemBcA .., _
  | .zLdMemDeA .., _ | .zLdAMemBc .., _ | .zLdAMemDe .., _ | .zIncMemHl .., _ | .zDecMemHl .., _ | .zRlca .., _ | .zRrca .., _
  | .zRla .., _ | .zRra .., _ | .zDaa .., _ | .zCpl .., _ | .zScf .., _ | .zCcf .., _ | .zHalt .., _ | .zAddAMemHl .., _
  | .zAdcAMemHl .., _ | .zSubMemHl .., _ | .zSbcAMemHl .., _ | .zAndMemHl .., _ | .zXorMemHl .., _ | .zOrMemHl .., _
  | .zCpMemHl .., _ | .zRet .., _ | .zExx .., _ | .zJpHl .., _ | .zLdSpHl .., _ | .zExMemSpHl .., _ | .zExDeHl .., _
  | .zDi .., _ | .zEi .., _ | .zRlcMemHl .., _ | .zRrcMemHl .., _ | .zRlMemHl .., _ | .zRrMemHl .., _ | .zSlaMemHl .., _
  | .zSraMemHl .., _ | .zSllMemHl .., _ | .zSrlMemHl .., _ | .zInFC .., _ | .zOutC0 .., _ | .zNeg .., _ | .zRetn .., _
  | .zReti .., _ | .zIm0 .., _ | .zIm1 .., _ | .zIm2 .., _ | .zIm0Copy4E .., _ | .zIm0Copy66 .., _ | .zIm0Copy6E .., _
  | .zIm1Copy .., _ | .zIm2Copy .., _ | .zLdIA .., _ | .zLdRA .., _ | .zLdAI .., _ | .zLdAR .., _ | .zRrd .., _ | .zRld .., _
  | .zLdi .., _ | .zCpi .., _ | .zIni .., _ | .zOuti .., _ | .zLdd .., _ | .zCpd .., _ | .zInd .., _ | .zOutd .., _
  | .zLdir .., _ | .zCpir .., _ | .zInir .., _ | .zOtir .., _ | .zLddr .., _ | .zCpdr .., _ | .zIndr .., _ | .zOtdr .., _ => rfl
  | .zJrCc cc _, _ | .zRetCc cc, _ | .zJpCcNn cc _, _ | .zCallCcNn cc _, _ => by cases cc <;> rfl
  | .zLdDdNn ss _, _ | .zAddHlSs ss, _ | .zIncSs ss, _ | .zDecSs ss, _ | .zSbcHlSs ss, _ | .zAdcHlSs ss, _
  | .zLdMemNnDd ss _, _ | .zLdDdMemNn ss _, _ | .zPopQq ss, _ | .zPushQq ss, _ => by cases ss <;> rfl
  | .zIncR r, _ | .zDecR r, _ | .zLdRN r _, _ | .zLdRMemHl r, _ | .zLdMemHlR r, _ | .zAddAR r, _ | .zAdcAR r, _ | .zSubR r, _
  | .zSbcAR r, _ | .zAndR r, _ | .zXorR r, _ | .zOrR r, _ | .zCpR r, _ | .zRlcR r, _ | .zRrcR r, _ | .zRlR r, _ | .zRrR r, _
  | .zSlaR r, _ | .zSraR r, _ | .zSllR r, _ | .zSrlR r, _ | .zInRC r, _ | .zOutCR r, _ => by cases r <;> rfl
  | .zLdRR r r', _ => by cases r <;> cases r' <;> rfl
  | .zRst b, _ | .zBitBMemHl b, _ | .zResBMemHl b, _ | .zSetBMemHl b, _ | .zNegCopy b, _ | .zRetnCopy b, _ => by decide +revert
  | .zBitBR b r, _ | .zResBR b r, _ | .zSetBR b r, _ => by cases r <;> decide +revert
  | .zLdXyNn xy _, _ | .zLdMemNnXy xy _, _ | .zIncXy xy, _ | .zLdXyMemNn xy _, _ | .zDecXy xy, _ | .zIncMemXy xy _, _
  | .zDecMemXy xy _, _ | .zLdMemXyN xy _ _, _ | .zAddAMemXy xy _, _ | .zAdcAMemXy xy _, _ | .zSubMemXy xy _, _
  | .zSbcAMemXy xy _, _ | .zAndMemXy xy _, _ | .zXorMemXy xy _, _ | .zOrMemXy xy _, _ | .zCpMemXy xy _, _ | .zPopXy xy, _
  | .zExMemSpXy xy, _ | .zPushXy xy, _ | .zJpXy xy, _ | .zLdSpXy xy, _ | .zRlcMemXy xy _, _ | .zRrcMemXy xy _, _
  | .zRlMemXy xy _, _ | .zRrMemXy xy _, _ | .zSlaMemXy xy _, _ | .zSraMemXy xy _, _ | .zSllMemXy xy _, _ | .zSrlMemXy xy _, _ =>
    by cases xy <;> rfl
  | .zAddXyPp xy pp, _ => by cases xy <;> cases pp <;> rfl
  | .zIncXyHalf xy l, _ | .zDecXyHalf xy l, _ | .zLdXyHalfN xy l _, _ | .zAddAXyHalf xy l, _ | .zAdcAXyHalf xy l, _
  | .zSubXyHalf xy l, _ | .zSbcAXyHalf xy l, _ | .zAndXyHalf xy l, _ | .zXorXyHalf xy l, _ | .zOrXyHalf xy l, _
  | .zCpXyHalf xy l, _ => by cases xy <;> cases l <;> rfl
  | .zLdRMemXy xy r _, _ | .zLdMemXyR xy r _, _ => by cases xy <;> cases r <;> rfl
  | .zLdXyHalfR xy l r', _ => by cases xy <;> cases l <;> cases r' <;> rfl
  | .zLdRXyHalf xy r l, _ => by cases xy <;> cases r <;> cases l <;> rfl
  | .zRotMemXyR xy _ rot r, _ => (pageCost_xycb _ _ (px_mem xy) rfl).trans (xycb_rotate rot.code r.code)
  | .zBitBMemXy xy _ b, _ => (pageCost_xycb _ _ (px_mem xy) rfl).trans (xycb_bit b _)
  | .zBitBMemXyZ xy _ b z, _ => (pageCost_xycb _ _ (px_mem xy) rfl).trans (xycb_bit b z)
  | .zResBMemXy xy _ b, _ => (pageCost_xycb _ _ (px_mem xy) rfl).trans (xycb_res b _)
  | .zResBMemXyR xy _ b r, _ => (pageCost_xycb _ _ (px_mem xy) rfl).trans (xycb_res b r.code)
  | .zSetBMemXy xy _ b, _ => (pageCost_xycb _ _ (px_mem xy) rfl).trans (xycb_set b _)
  | .zSetBMemXyR xy _ b r, _ => (pageCost_xycb _ _ (px_mem xy) rfl).trans (xycb_set b r.code)

/-- The default table of the 6502 holds the cost of each row. -/
theorem costM6502_default (hcyc : cfg.cyc = CycTables.default) (hc : i.cpu = .m6502) : costM6502 cfg i = i.statedCost := by
  unfold costM6502
  rw [hcyc]
  cases i <;> cases hc <;> rfl

/-- An instruction that is one ignored byte (R930 to R934, R821, R502). -/
theorem costZ80_prefix (hp : i.isPrefix = true) : costZ80 cfg i = cfg.cyc.ignoredPrefix := if_pos hp

theorem costZ80_illegal (hp : i.isPrefix = false) (hi : illegalUnder cfg i = true) : costZ80 cfg i = cfg.cyc.z80Illegal := by
  simp [costZ80, hp, hi]

theorem costZ80_paged (hp : i.isPrefix = false) (hi : illegalUnder cfg i = false) :
    costZ80 cfg i = pageCost cfg.cyc (encode i) := by
  simp [costZ80, hp, hi]

/-- With undocumented encodings allowed the default tables charge the cost of the row (R930 to R934). -/
theorem costZ80_default (hcyc : cfg.cyc = CycTables.default) (hundoc : cfg.z80Undoc = true) (hc : i.cpu = .z80) :
    costZ80 cfg i = i.statedCost := by
  cases hp : i.isPrefix with
  | true =>
    rw [costZ80_prefix hp, hcyc]
    obtain ⟨xy, b, rfl⟩ | ⟨xy, xy', rfl⟩ := isPrefix_iff.1 hp <;> rfl
  | false =>
    cases hi : illegalUnder cfg i with
    | true =>
      rw [costZ80_illegal hp hi, hcyc]
      obtain ⟨op, rfl⟩ | ⟨-, hoff⟩ := illegalUnder_iff.1 hi
      · rfl
      · exact nomatch hundoc.symm.trans hoff
    | false =>
      rw [costZ80_paged hp hi, hcyc]
      refine pageCost_default i ?_
      unfold pagedZ80
      split
      · cases hp
      · cases hp
      · cases hi
      · exact decide_eq_true hc

/-! ## The obligation -/

/-- Settles O5: `step_z80` and `step_m6502` with what follows the meaning, `advanceR_eq`, the page that is charged, and the default
tables. -/
theorem stepRunsTheFetchedInstruction : Obligations.StepRunsTheFetchedInstruction := by
  refine ⟨fun i s s1 hp hf => ⟨fun hc hcount hhalt => ?_, fun hc hcount => step_m6502 hp hf hc hcount⟩, advanceR_eq,
    fun i cfg => ?_, ⟨rfl, rfl, rfl, rfl, rfl, rfl, rfl, rfl, rfl, rfl, rfl, rfl⟩⟩
  · have hstep := step_z80 hp hf hc hcount hhalt
    refine ⟨fun hg => ?_, fun hi => ?_, fun hg hi t ht => ?_⟩
    · exact hstep.trans (finishZ_of_closed (.inl hg) _)
    · exact hstep.trans (finishZ_of_closed (.inr hi) _)
    · rw [hstep, hg, show exec i (beginZ i s1) = .next t from ht]
      exact finishZ_of_open hi
  · obtain ⟨b0, rest, he⟩ := List.exists_cons_of_ne_nil (encode_ne_nil i)
    dsimp only
    rw [← isPrefix_iff, ← illegalUnder_iff, Bool.not_eq_true, Bool.not_eq_true]
    refine ⟨fun hp => ?_, fun hp => ?_, ?_, fun h => ?_, fun hcyc hw => ?_⟩
    · refine ⟨if_pos hp, if_pos hp, costZ80_prefix hp⟩
    · have hcost := fun hi => costZ80_paged (cfg := cfg) hp hi
      rw [he] at hcost ⊢
      have hsize : i.size = (b0 :: rest).length := by simp [Instr.size, hp, he]
      refine ⟨hsize, fun h => ?_, fun h => ?_, costZ80_illegal hp, fun hi => ⟨fun h => ?_, fun h => ?_, fun h => ?_,
        fun h h1 => ?_, fun h h1 => ?_⟩⟩
      · exact (opcodeBytes_eq hp he).trans (if_pos h)
      · exact (opcodeBytes_eq hp he).trans (if_neg h)
      · exact (hcost hi).trans (pageCost_main _ _ h)
      · obtain rfl : b0 = 0xCB := h
        exact (hcost hi).trans (pageCost_cb _ _)
      · obtain rfl : b0 = 0xED := h
        exact (hcost hi).trans (pageCost_ed _ _)
      · exact (hcost hi).trans (pageCost_xycb _ _ h h1)
      · exact (hcost hi).trans (pageCost_xy _ _ h h1)
    · rintro ⟨op, rfl⟩
      exact costM6502_illegal op
    · exact costM6502_legal h
    · exact ⟨fun hc hundoc => costZ80_default hcyc hundoc hc, costM6502_default hcyc⟩

end Sys2Proof.Machine
end

/-! What the hooks do with an access, route by route, and the two ways a reply comes (R131, R133, U12). -/
section
namespace Sys2Proof.Machine

variable {s : State} {a : Word} {r : HookReply} {rest : List HookReply}

/-! ## Replies -/

theorem takeReply_cons (h : s.hookIn = r :: rest) : takeReply s = (r, { s with hookIn := rest }) := by
  unfold takeReply
  rw [h]

theorem takeReply_nil (h : s.hookIn = []) : takeReply s = (Config.hookReply s.tick, { s with tick := s.tick + 1 }) := by
  unfold takeReply
  rw [h]

/-- A read outside the core: what the reply calls, then its answer (U12). -/
theorem externalRead_of_reply {u : State} (h : takeReply s = (r, u)) (mk : Byte → Event) :
    externalRead mk s = (r.answer, (runCalls r.calls u).emit (mk r.answer)) := by
  simp only [externalRead, h]

theorem externalWrite_of_reply {u : State} (h : takeReply s = (r, u)) : externalWrite s = runCalls r.calls u := by
  simp only [externalWrite, h]

/-! ## Routes -/

theorem memRead_control (h : routeOf s.cfg.memMap a = some .vdpControl) : memRead a s = readControlPort s := by
  unfold memRead
  rw [h]

theorem memRead_data (h : routeOf s.cfg.memMap a = some .vdpData) : memRead a s = readDataPort s := by
  unfold memRead
  rw [h]

theorem memRead_external (h : routeOf s.cfg.memMap a = none ∨ routeOf s.cfg.memMap a = some .external) :
    memRead a s = externalRead (.readByte a) s := by
  unfold memRead
  obtain h | h := h <;> rw [h]

theorem memWrite_control (h : routeOf s.cfg.memMap a = some .vdpControl) (v : Byte) :
    memWrite a v s = routeIrq (writeControlPort v (s.emit (.writeByte a v))) := by
  unfold memWrite takeByte
  rw [State.emit_cfg, h]

theorem memWrite_data (h : routeOf s.cfg.memMap a = some .vdpData) (v : Byte) :
    memWrite a v s = writeDataPort v (s.emit (.writeByte a v)) := by
  unfold memWrite takeByte
  rw [State.emit_cfg, h]

theorem memWrite_external (h : routeOf s.cfg.memMap a = none ∨ routeOf s.cfg.memMap a = some .external) (v : Byte) :
    memWrite a v s = externalWrite (s.emit (.writeByte a v)) := by
  unfold memWrite takeByte
  rw [State.emit_cfg]
  obtain h | h := h <;> rw [h]

theorem portIn_control (h : routeOf s.cfg.portMap a = some .vdpControl) : portIn a s = readControlPort s := by
  unfold portIn
  rw [h]

theorem portIn_data (h : routeOf s.cfg.portMap a = some .vdpData) : portIn a s = readDataPort s := by
  unfold portIn
  rw [h]

theorem portIn_external (hc : routeOf s.cfg.portMap a ≠ some .vdpControl) (hd : routeOf s.cfg.portMap a ≠ some .vdpData) :
    portIn a s = externalRead (.inPort a) s := by
  unfold portIn
  split
  · exact absurd ‹_› hc
  · exact absurd ‹_› hd
  · rfl

theorem portOut_control (h : routeOf s.cfg.portMap a = some .vdpControl) (v : Byte) :
    portOut a v s = routeIrq (writeControlPort v (s.emit (.outPort a v))) := by
  unfold portOut takePort
  rw [State.emit_cfg, h]

theorem portOut_data (h : routeOf s.cfg.portMap a = some .vdpData) (v : Byte) :
    portOut a v s = writeDataPort v (s.emit (.outPort a v)) := by
  unfold portOut takePort
  rw [State.emit_cfg, h]

theorem portOut_external (hc : routeOf s.cfg.portMap a ≠ some .vdpControl) (hd : routeOf s.cfg.portMap a ≠ some .vdpData)
    (v : Byte) : portOut a v s = externalWrite (s.emit (.outPort a v)) := by
  unfold portOut takePort
  rw [State.emit_cfg]
  split
  · exact absurd ‹_› hc
  · exact absurd ‹_› hd
  · rfl

/-- A write to plain RAM changes that byte and the record of outputs. -/
theorem memWrite_onlyRamAt (h : PlainAt s.cfg a) (v : Byte) : OnlyRamAt [a] s (memWrite a v s) := by
  refine ⟨?_, fun b hb => memWrite_ramByte_other s a b v (by simpa using hb)⟩
  rw [memWrite_plain s a v h]

/-- Settles O18: one lemma per hook and route, and one per way a reply comes. -/
theorem hooksRouteEachAccess : Obligations.HooksRouteEachAccess := by
  refine ⟨fun s a v => ?_, fun s => ⟨fun _ => rfl, rfl, fun _ _ => rfl, fun _ => rfl, fun _ => rfl, fun _ => rfl, rfl, rfl⟩⟩
  dsimp only
  refine ⟨fun h => ?_, fun h => ?_, fun h => ?_, fun h => ⟨fun r rest hr => ?_, fun hr => ?_⟩, fun h => ?_, fun h => ?_,
    fun hc hd => ⟨fun r rest hr => ?_, fun hr => ?_⟩⟩
  · exact ⟨memRead_plain s a h, memWrite_onlyRamAt h v, memWrite_ramByte_same s a v h, by rw [memWrite_plain s a v h]; rfl⟩
  · exact ⟨memRead_control h, memWrite_control h v⟩
  · exact ⟨memRead_data h, memWrite_data h v⟩
  · rw [memRead_external h, memWrite_external h]
    exact ⟨externalRead_of_reply (takeReply_cons hr) _, externalWrite_of_reply (takeReply_cons hr)⟩
  · rw [memRead_external h, memWrite_external h]
    exact ⟨⟨_, externalRead_of_reply (takeReply_nil hr) _⟩, _, externalWrite_of_reply (takeReply_nil hr)⟩
  · exact ⟨portIn_control h, portOut_control h v⟩
  · exact ⟨portIn_data h, portOut_data h v⟩
  · rw [portIn_external hc hd, portOut_external hc hd]
    exact ⟨externalRead_of_reply (takeReply_cons hr) _, externalWrite_of_reply (takeReply_cons hr)⟩
  · rw [portIn_external hc hd, portOut_external hc hd]
    exact ⟨⟨_, externalRead_of_reply (takeReply_nil hr) _⟩, _, externalWrite_of_reply (takeReply_nil hr)⟩

end Sys2Proof.Machine
end

/-! Video memory through the ports: the two address commands, and a read after a write (R141, R712 to R717). -/
section
namespace Sys2Proof.Machine

/-- A write-address command is a read-address command with bit 6 set: the address is the same (R210, R713). -/
theorem controlAddress_or_0x40 (hi lo : Byte) : controlAddress (hi ||| 0x40) lo = controlAddress hi lo := by
  have h : (hi ||| 0x40).extractLsb' 0 6 = hi.extractLsb' 0 6 := by decide +revert
  rw [controlAddress, h, controlAddress]

/-- The second byte of a write-address command sets the address and nothing is read (R713). -/
theorem writeControlPort_setWrite {s : State} {hi : Byte} (h : s.vdp.flipflop = .expectHigh) (hhi : hi.toNat < 64) :
    (writeControlPort (hi ||| 0x40) s).2 = s.onVdp fun v =>
      { v with flipflop := .expectLowOrData, vaddr := controlAddress hi v.ctrlLow } := by
  have hcode : ((hi ||| 0x40).extractLsb' 6 2).toNat = 1 := by decide +revert
  simp only [writeControlPort, h, hcode, controlAddress_or_0x40]
  rfl

/-- The second byte of a read-address command sets the address and reads ahead (R712). -/
theorem writeControlPort_setRead {s : State} {hi : Byte} (h : s.vdp.flipflop = .expectHigh) (hhi : hi.toNat < 64) :
    (writeControlPort hi s).2 = s.onVdp fun v =>
      Vdp.prefetch { v with flipflop := .expectLowOrData, vaddr := controlAddress hi v.ctrlLow } := by
  have hcode : (hi.extractLsb' 6 2).toNat = 0 := by decide +revert
  simp only [writeControlPort, h, hcode]
  rfl

/-- The first byte of a command is latched (R711). -/
theorem writeControlPort_low {s : State} (h : s.vdp.flipflop = .expectLowOrData) (b : Byte) :
    (writeControlPort b s).2 = s.onVdp fun v => { v with ctrlLow := b, flipflop := .expectHigh } := by
  simp only [writeControlPort, h]

/-- Video memory reads back what was written, and only under the same masked address (R141). -/
theorem vr_vw (v : Vdp) (a a' : VAddr) (b : Byte) :
    (Vdp.vw a b v).vr a' = if a &&& v.tab.vramMask = a' &&& v.tab.vramMask then b else v.vr a' := by
  split
  next h =>
    rw [Vdp.vr, Vdp.vw, ← h]
    exact Memory.read_write_same _ _ _
  next h => exact Memory.read_write_other _ _ _ _ fun hn => h (BitVec.eq_of_toNat_eq hn).symm

/-- Settles O52: the two commands name the same address (`writeControlPort_setWrite`, `writeControlPort_setRead`), and `vr_vw`. -/
theorem videoMemoryReadsBackWhatWasWritten : Obligations.VideoMemoryReadsBackWhatWasWritten := by
  refine ⟨fun s lo hi b hs hhi => ?_, vr_vw⟩
  dsimp only
  rw [writeControlPort_low hs, writeControlPort_setWrite rfl hhi, writeControlPort_low rfl lo, writeControlPort_setRead rfl hhi]
  exact (vr_vw _ _ _ _).trans (if_pos rfl)

end Sys2Proof.Machine
end

/-! CPU memory and video memory stay canonical: under every access, so under every run of a CPU, then phase by phase of the step
(R65, R130). -/
section
namespace Sys2Proof.Machine

variable {s t u : State} {c : Cpu}

/-- Both memories of a machine are in canonical form (R65, R130). -/
structure Canonical (s : State) : Prop where
  ram : RamCanonical s
  vram : VramCanonical s.vdp

/-! ## Accesses and runs of a CPU -/

/-- What leaves both memories alone keeps them canonical. -/
theorem Canonical.of_eq (h : Canonical s) (hmem : t.mem = s.mem) (hvram : t.vdp.vram = s.vdp.vram) : Canonical t := by
  obtain ⟨hram, hv⟩ := h
  exact ⟨by rwa [RamCanonical, hmem], by rwa [VramCanonical, hvram]⟩

theorem emit_canonical (h : Canonical s) (e : Event) : Canonical (s.emit e) := h.of_eq rfl rfl

/-- A register write leaves video memory alone (R690). -/
@[simp] theorem storeRegister_vram (cfg : Config) (n : BitVec 3) (b : Byte) (v : Vdp) :
    (Vdp.storeRegister cfg n b v).vram = v.vram := by
  unfold Vdp.storeRegister
  split <;> rfl

@[simp] theorem writeRegister_vram (i v : Byte) : (writeRegister i v s).2.vdp.vram = s.vdp.vram := by
  unfold writeRegister
  dsimp only
  split <;> simp

/-- The control port moves the address and writes registers; it writes no byte of video memory (R710 to R714). -/
@[simp] theorem writeControlPort_vram (b : Byte) : (writeControlPort b s).2.vdp.vram = s.vdp.vram := by
  unfold writeControlPort
  split
  · rfl
  · split
    · rfl
    · rfl
    · exact writeRegister_vram _ _

/-- The masked address of a write lies in the 16384 bytes of video memory (R65, R141). -/
theorem vw_canonical {v : Vdp} (h : VramCanonical v) (a : VAddr) (b : Byte) : VramCanonical (Vdp.vw a b v) :=
  Memory.write_wf _ _ _ _ (a &&& v.tab.vramMask).isLt h

theorem writeDataPort_canonical (h : Canonical s) (b : Byte) : Canonical (writeDataPort b s) :=
  ⟨h.ram, vw_canonical h.vram _ _⟩

theorem runCall_canonical (h : Canonical s) (call : CoreCall) : Canonical (runCall call s) := by
  cases call with
  | inject r => exact h.of_eq (by simp) (by simp [runCall])
  | writeControlPort b => exact h.of_eq (by simp) (by simp [runCall])
  | readControlPort | readDataPort => exact h.of_eq rfl rfl
  | writeDataPort b => exact writeDataPort_canonical h b

theorem runCalls_canonical (h : Canonical s) (calls : List CoreCall) : Canonical (runCalls calls s) := by
  induction calls generalizing s with
  | nil => exact h
  | cons call calls ih => exact ih (runCall_canonical h call)

theorem takeReply_canonical (h : Canonical s) : Canonical (takeReply s).2 := h.of_eq (by simp) (by simp)

theorem externalRead_canonical (h : Canonical s) (mk : Byte → Event) : Canonical (externalRead mk s).2 :=
  emit_canonical (runCalls_canonical (takeReply_canonical h) _) _

theorem externalWrite_canonical (h : Canonical s) : Canonical (externalWrite s) :=
  runCalls_canonical (takeReply_canonical h) _

theorem memRead_canonical (h : Canonical s) (a : Word) : Canonical (memRead a s).2 := by
  unfold memRead
  split
  · exact h
  · exact h.of_eq rfl rfl
  · exact h.of_eq rfl rfl
  · exact externalRead_canonical h _

/-- A byte written goes to RAM, to a port of the VDP, or outside (R131). -/
theorem takeByte_canonical (h : Canonical s) (a : Word) (v : Byte) : Canonical (takeByte a v s) := by
  unfold takeByte
  split
  · exact ⟨Memory.write_wf _ _ _ _ a.isLt h.ram, h.vram⟩
  · exact runCall_canonical h (.writeControlPort v)
  · exact writeDataPort_canonical h v
  · exact externalWrite_canonical h

theorem memWrite_canonical (h : Canonical s) (a : Word) (v : Byte) : Canonical (memWrite a v s) :=
  takeByte_canonical (emit_canonical h _) a v

theorem portIn_canonical (h : Canonical s) (p : Word) : Canonical (portIn p s).2 := by
  unfold portIn
  split
  · exact h.of_eq rfl rfl
  · exact h.of_eq rfl rfl
  · exact externalRead_canonical h _

theorem takePort_canonical (h : Canonical s) (p : Word) (v : Byte) : Canonical (takePort p v s) := by
  unfold takePort
  split
  · exact runCall_canonical h (.writeControlPort v)
  · exact writeDataPort_canonical h v
  · exact externalWrite_canonical h

theorem portOut_canonical (h : Canonical s) (p : Word) (v : Byte) : Canonical (portOut p v s) :=
  takePort_canonical (emit_canonical h _) p v

/-- A CPU reaches memory and the VDP by accesses alone. -/
theorem CpuRuns.canonical (hr : CpuRuns s c t) (h : Canonical s) : Canonical t := by
  induction hr with
  | refl => exact h
  | onZ _ f ih | onM _ f ih => exact ih.of_eq rfl rfl
  | emit _ e ih => exact emit_canonical ih e
  | tick _ ih => exact ih.of_eq rfl rfl
  | read _ a ih => exact memRead_canonical ih a
  | write _ a v ih => exact memWrite_canonical ih a v
  | input _ p ih => exact portIn_canonical ih p
  | output _ p v ih => exact portOut_canonical ih p v

/-! ## `Execute` -/

theorem accept_ok_canonical (h : Canonical s) (ha : accept s = .ok t) : Canonical t := by
  have hic (ic : Pending) : Canonical { s with ic := ic } := h.of_eq rfl rfl
  cases hc : s.cfg.cpu with
  | z80 =>
    obtain ⟨-, ⟨-, rfl⟩ | ⟨-, -, v, -, hentry⟩ | ⟨-, -, rfl⟩⟩ := acceptZ_ok (accept_z80 hc ▸ ha)
    · exact (nmiEntry_runs .refl).canonical (hic _)
    · exact (intEntry_runs hentry).canonical (hic _)
    · exact h
  | m6502 =>
    obtain ⟨-, ⟨-, rfl⟩ | ⟨-, -, -, rfl⟩ | ⟨-, -, rfl⟩⟩ := acceptM_ok (accept_m6502 hc ▸ ha)
    · exact (entry6502_runs .refl _).canonical (hic _)
    · exact (entry6502_runs .refl _).canonical (hic _)
    · exact h

/-- A sample point and what follows it, whether it goes on or stops (R830, R842, R857). -/
theorem atSample_canonical (h : Canonical s) {k : State → State} (ha : atSample (accept s) k = .next t)
    (hk : ∀ u, Canonical u → Canonical (k u)) : Canonical t := by
  obtain ⟨u, hu, rfl⟩ | ⟨u, hu, rfl⟩ := atSample_next ha
  · exact hk u (accept_ok_canonical h hu)
  · obtain ⟨-, rfl⟩ := accept_stop hu
    exact h.of_eq rfl rfl

theorem poll_canonical (h : Canonical s) : Canonical (poll s) := by
  have htake : Canonical (takePoll s).2 := by
    unfold takePoll
    split <;> exact h.of_eq rfl rfl
  exact runCall_canonical (emit_canonical (runCalls_canonical htake _) _) (.inject _)

theorem graceEnd_canonical (h : Canonical s) (hc : s.cfg.cpu = .z80) (hg : graceEnd s = .next t) : Canonical t := by
  have hclose : Canonical (closeWindow s) := h.of_eq rfl rfl
  unfold graceEnd at hg
  split at hg
  · rw [← accept_z80 (s := closeWindow s) hc] at hg
    exact atSample_canonical hclose hg fun _ => id
  · cases hg
    exact hclose

/-- The instruction a fetch finds, run after what stands between fetch and meaning, which changes a CPU record only. -/
theorem fetchExec_canonical (h : Canonical s) {i : Instr} {s1 s2 : State} (hf : fetch s = (some i, s1)) (hb : CpuRuns s1 c s2)
    (he : exec i s2 = .next t) : Canonical t := by
  have hfetch : CpuRuns s c s1 := by simpa only [hf] using fetch_runs (s := s) (c := c) .refl
  exact ((exec_completes i).runs he).canonical (hb.canonical (hfetch.canonical h))

theorem stepZ80_canonical (h : Canonical s) (hc : s.cfg.cpu = .z80) (hs : stepZ80 s = .next t) : Canonical t := by
  obtain ⟨-, rfl⟩ | ⟨-, i, s1, u, hf, he, hfinish⟩ := stepZ80_next hs
  · exact h.of_eq rfl rfl
  · have hbegin : CpuRuns s1 .z80 (beginZ i s1) := cycZ_runs (.onZ .refl _) _
    have hu : Canonical u := fetchExec_canonical h hf hbegin he
    obtain ⟨rfl, -⟩ | ⟨-, -, hgrace⟩ := hfinish
    · exact hu
    · have hcfg : u.cfg = s.cfg := (fetchExec_keepsVdpLegal hf hbegin he).cfg
      exact graceEnd_canonical hu (hcfg ▸ hc) hgrace

theorem stepM6502_canonical (h : Canonical s) (hs : stepM6502 s = .next t) : Canonical t := by
  obtain ⟨i, s1, hf, he⟩ := stepM6502_next hs
  exact fetchExec_canonical h hf (cycM_runs (.onM .refl _) _) he

theorem executeEntry_canonical (h : Canonical s) (hs : executeEntry s = .next t) : Canonical t := by
  unfold executeEntry at hs
  split at hs
  next hc =>
    rw [← accept_z80 hc] at hs
    exact atSample_canonical h hs fun _ hu => hu.of_eq rfl rfl
  next hc =>
    have hcleared : Canonical (s.onM fun m => { m with cycLine := 0 }) := h.of_eq rfl rfl
    rw [← accept_m6502 (s := s.onM _) hc] at hs
    exact atSample_canonical hcleared hs fun _ hu => hu.of_eq rfl rfl

theorem executeLoop_canonical (h : Canonical s) (hs : executeLoop s = .next t) : Canonical t := by
  have hend (u : State) (hu : Canonical u) : Canonical (endExecute u) := hu.of_eq rfl rfl
  cases hc : s.cfg.cpu with
  | z80 =>
    rw [executeLoop_z80 hc, ← accept_z80 hc] at hs
    split at hs
    · exact stepZ80_canonical h hc hs
    · exact atSample_canonical h hs hend
  | m6502 =>
    have hpoll : (poll s).cfg.cpu = .m6502 := (congrArg Config.cpu poll_keepsVdpLegal.cfg).trans hc
    rw [executeLoop_m6502 hc, ← accept_m6502 hpoll] at hs
    split at hs
    · exact stepM6502_canonical h hs
    · exact atSample_canonical (poll_canonical h) hs hend

/-! ## The driver -/

/-- Rendering reads video memory and writes none of it (R757). -/
@[simp] theorem renderLine_vram (cfg : Config) (y : Nat) (v : Vdp) : (renderLine cfg y v).vram = v.vram := by
  unfold renderLine
  dsimp only
  split <;> rfl

theorem stepScanline_canonical (h : Canonical s) : Canonical (stepScanline s).2 := by
  refine h.of_eq (by rw [stepScanline_keeps]) ?_
  unfold stepScanline
  dsimp only
  split
  · exact renderLine_vram _ _ _
  · split <;> rfl

/-- `Reset` empties video memory, and the 6502 reads its vector (R902, R904). -/
theorem resetMachine_canonical (h : Canonical s) : Canonical (resetMachine s) := by
  cases hc : s.cfg.cpu with
  | z80 =>
    rw [resetMachine_z80 hc]
    exact ⟨h.ram, rfl⟩
  | m6502 =>
    rw [resetMachine_m6502 hc]
    refine Canonical.of_eq ((memRead16_runs (c := .m6502) .refl 0xFFFC).canonical ?_) rfl rfl
    exact ⟨h.ram, rfl⟩

theorem runAction_canonical (h : Canonical s) {act : DriverAction} (ha : ∀ b, act = .restore b → BlobLegal s.cfg b) :
    Canonical (runAction act s) := by
  cases act with
  | reset => exact resetMachine_canonical h
  | save => exact h.of_eq rfl rfl
  | restore b =>
    obtain ⟨-, hvram, -⟩ := ha b rfl
    exact ⟨h.ram, hvram⟩
  | writeRegister index value => exact h.of_eq (by simp) (by simp [runAction])
  | stepScanline => exact (stepScanline_canonical h).of_eq rfl rfl
  | call c => exact runCall_canonical h c

theorem runActions_canonical {acts : List DriverAction} (h : Canonical s) (ha : ActionsLegal s.cfg acts) :
    Canonical (runActions acts s) := by
  induction acts generalizing s with
  | nil => exact h
  | cons act acts ih =>
    have hcfg : (runAction act s).cfg = s.cfg := runAction_cfg act
    refine ih (runAction_canonical h (ha act List.mem_cons_self)) ?_
    rw [hcfg]
    exact fun a hm => ha a (List.mem_cons_of_mem _ hm)

theorem startIteration_canonical (hi : InputsLegal s) (h : Canonical s) : Canonical (startIteration s) := by
  unfold startIteration
  split
  · exact h.of_eq rfl rfl
  next line rest hl =>
    have hlines : Canonical { s with lines := rest } := h.of_eq rfl rfl
    exact (runActions_canonical hlines (hi line (hl ▸ List.mem_cons_self))).of_eq rfl rfl

theorem scanlineHalf_canonical (h : Canonical s) : Canonical (scanlineHalf s) :=
  (stepScanline_canonical h).of_eq (by simp [scanlineHalf]) (by simp [scanlineHalf])

theorem whileStopped_canonical (hi : InputsLegal s) (h : Canonical s) : Canonical (whileStopped s) := by
  unfold whileStopped
  split
  · exact h
  · exact startIteration_canonical hi h

/-! ## The step -/

theorem step_canonical (hi : InputsLegal s) (h : Canonical s) (hs : step s = .next t) : Canonical t := by
  cases hp : s.phase with
  | iterStart =>
    cases (step_iterStart hp).symm.trans hs
    exact startIteration_canonical hi h
  | execEntry => exact executeEntry_canonical h (step_execEntry hp ▸ hs)
  | execLoop => exact executeLoop_canonical h (step_execLoop hp ▸ hs)
  | scanline =>
    cases (step_scanline hp).symm.trans hs
    exact scanlineHalf_canonical h
  | stopped =>
    cases (step_stopped hp).symm.trans hs
    exact whileStopped_canonical hi h

/-- Settles O8: phase by phase (`step_canonical`); the inputs stay legal since a step adds no line. -/
theorem stepKeepsMemoriesCanonical : Obligations.StepKeepsMemoriesCanonical := by
  intro s t hi hram hvram hs
  have hk := step_keeps hs
  have ht := step_canonical hi ⟨hram, hvram⟩ hs
  exact ⟨hi.mono hk.cfg hk.lines, ht.ram, ht.vram⟩

end Sys2Proof.Machine
end

/-! The stack of the Z80: push, pop and `EX (SP)` as accesses on the state before them, and a pop after a push on plain RAM (R136,
R259 to R262, R266, R267). -/
section
namespace Sys2Proof.Machine

variable {s : State}

/-! ## The instructions of the stack -/

theorem exec_zPushQq (qq : RegQQ) : exec (.zPushQq qq) s = .next (pushZ (s.z.getQQ qq) s) := rfl
theorem exec_zPushXy (xy : XYReg) : exec (.zPushXy xy) s = .next (pushZ (s.z.getXY xy) s) := rfl
theorem exec_zPopQq (qq : RegQQ) : exec (.zPopQq qq) s = .next ((popZ s).2.onZ (Z80.setQQ qq (popZ s).1)) := rfl
theorem exec_zPopXy (xy : XYReg) : exec (.zPopXy xy) s = .next ((popZ s).2.onZ (Z80.setXY xy (popZ s).1)) := rfl

theorem exec_zExMemSpHl :
    exec .zExMemSpHl s = .next ((exchangeSP s.z.hl s).2.onZ (Z80.setHL (exchangeSP s.z.hl s).1)) := rfl

theorem exec_zExMemSpXy (xy : XYReg) :
    exec (.zExMemSpXy xy) s = .next ((exchangeSP (s.z.getXY xy) s).2.onZ (Z80.setXY xy (exchangeSP (s.z.getXY xy) s).1)) := rfl

/-! ## What they do -/

theorem hi8_mk16 (hi lo : Byte) : hi8 (mk16 hi lo) = hi := BitVec.extractLsb'_append_eq_left

/-- `HL` written from two bytes is its two registers written (R32). -/
theorem setHL_mk16 (hi lo : Byte) : Z80.setHL (mk16 hi lo) = fun z => { z with l := lo, h := hi } := by
  funext z
  rw [Z80.setHL, hi8_mk16, lo8_mk16]

/-- `EX (SP)`: the word at `SP` is read, low byte first, and written, high byte first (R266). -/
theorem exchangeSP_eq (v : Word) (s : State) :
    exchangeSP v s =
      let lo := memRead s.z.sp s
      let hi := memRead (s.z.sp + 1) lo.2
      (mk16 hi.1 lo.1, memWrite s.z.sp (lo8 v) (memWrite (s.z.sp + 1) (hi8 v) hi.2)) := rfl

/-- A push, as two writes on the state before it, with the stack pointer of that state (R136). -/
theorem pushZ_at (v : Word) (s : State) :
    pushZ v s = (memWrite (s.z.sp - 2) (lo8 v) (memWrite (s.z.sp - 1) (hi8 v) s)).onZ fun z => { z with sp := s.z.sp - 2 } :=
  (pushZ_eq s v).trans (State.onZ_congr (by simp))

/-- A pop, as two reads on the state before it, with the stack pointer of that state (R136). -/
theorem popZ_at (s : State) :
    popZ s =
      let lo := memRead s.z.sp s
      let hi := memRead (s.z.sp + 1) lo.2
      (mk16 hi.1 lo.1, hi.2.onZ fun z => { z with sp := s.z.sp + 2 }) :=
  (popZ_eq s).trans (congrArg _ (State.onZ_congr (by simp)))

/-! ## A pop after a push on plain RAM -/

/-- On plain RAM the two bytes of a push lie where R136 puts them. -/
theorem pushZ_plain (v : Word) (hhi : PlainAt s.cfg (s.z.sp - 1)) (hlo : PlainAt s.cfg (s.z.sp - 2)) :
    (pushZ v s).ramByte (s.z.sp - 1) = hi8 v ∧ (pushZ v s).ramByte (s.z.sp - 2) = lo8 v := by
  have hne : s.z.sp - 1 ≠ s.z.sp - 2 := by bv_omega
  have hwhi : (memWrite (s.z.sp - 1) (hi8 v) s).ramByte (s.z.sp - 1) = hi8 v := memWrite_ramByte_same _ _ _ hhi
  rw [pushZ_eq]
  constructor
  · exact (memWrite_ramByte_other _ _ _ _ hne).trans hwhi
  · exact memWrite_ramByte_same _ _ _ (by simpa [PlainAt] using hlo)

/-- On plain RAM a pop gives back the word pushed before it (R136). -/
theorem popZ_pushZ (v : Word) (hhi : PlainAt s.cfg (s.z.sp - 1)) (hlo : PlainAt s.cfg (s.z.sp - 2)) :
    popZ (pushZ v s) = (v, (pushZ v s).onZ fun z => { z with sp := z.sp + 2 }) := by
  obtain ⟨hbhi, hblo⟩ := pushZ_plain v hhi hlo
  have hsp : (pushZ v s).z.sp = s.z.sp - 2 := by rw [pushZ_z, Word.sub_one_sub_one]
  have hnext : s.z.sp - 2 + 1 = s.z.sp - 1 := by bv_omega
  have hrlo : memRead (s.z.sp - 2) (pushZ v s) = (lo8 v, pushZ v s) := by
    rw [memRead_plain _ _ (by simpa [PlainAt] using hlo), hblo]
  have hrhi : memRead (s.z.sp - 1) (pushZ v s) = (hi8 v, pushZ v s) := by
    rw [memRead_plain _ _ (by simpa [PlainAt] using hhi), hbhi]
  rw [popZ_eq, hsp, hnext, hrlo, hrhi, mk16_hi8_lo8]

/-- The record after a push and a pop on plain RAM: one pair copied to another, `SP` where it was. -/
theorem pop_push_z (p q : RegQQ) (hhi : PlainAt s.cfg (s.z.sp - 1)) (hlo : PlainAt s.cfg (s.z.sp - 2)) :
    let t := pushZ (s.z.getQQ p) s
    ((popZ t).2.onZ (Z80.setQQ q (popZ t).1)).z = s.z.setQQ q (s.z.getQQ p) := by
  have hsp : s.z.sp - 1 - 1 + 2 = s.z.sp := by bv_omega
  dsimp only
  simp only [popZ_pushZ _ hhi hlo, State.onZ_z, pushZ_z, hsp]

/-- Settles O19: the stack operations as accesses on the state before them (`pushZ_at`, `popZ_at`, `exchangeSP_eq`), and
`popZ_pushZ` on plain RAM. -/
theorem pushPopAndExchangeKeepTheStackDiscipline : Obligations.PushPopAndExchangeKeepTheStackDiscipline := by
  refine ⟨fun s => ?_, fun s p q hhi hlo => ?_⟩
  · dsimp only
    refine ⟨fun qq => ?_, fun xy => ?_, fun qq => ?_, fun xy => ?_, ?_, fun xy => ?_⟩
    · rw [exec_zPushQq, pushZ_at]
    · rw [exec_zPushXy, pushZ_at]
    · rw [exec_zPopQq, popZ_at, State.onZ_onZ]
    · rw [exec_zPopXy, popZ_at, State.onZ_onZ]
    · rw [exec_zExMemSpHl, exchangeSP_eq, setHL_mk16]
      rfl
    · rw [exec_zExMemSpXy, exchangeSP_eq]
  · obtain ⟨hbhi, hblo⟩ := pushZ_plain (s.z.getQQ p) hhi hlo
    exact ⟨_, _, exec_zPushQq p, exec_zPopQq q, pop_push_z p q hhi hlo, hbhi, hblo⟩

end Sys2Proof.Machine
end

/-! The fetch from plain RAM (R132, R183): it decodes ever longer starts of the bytes at the program counter, and the first that
decodes is the whole encoding. -/
section
namespace Sys2Proof.Machine

variable {s : State} {cpu : Cpu} {i : Instr}

/-- The fetch over a list in place of memory: the instruction that the bytes `read` and ever more of the list decode to. -/
def firstDecoded (cpu : Cpu) : List Byte → List Byte → Option Instr
  | _, [] => none
  | read, b :: rest =>
    match decode cpu (read ++ [b]) with
    | .ok i => some i
    | .error _ => firstDecoded cpu (read ++ [b]) rest

/-- A fetch from plain RAM is `firstDecoded` of the bytes that stand there, and changes nothing. -/
theorem fetchFrom_plain {pc : Word} {fuel : Nat} {read bytes : List Byte}
    (hram : ∀ k, k < bytes.length → PlainAt s.cfg (pc + BitVec.ofNat 16 (read.length + k)) ∧
      bytes[k]? = some (s.ramByte (pc + BitVec.ofNat 16 (read.length + k))))
    (hfuel : bytes.length ≤ fuel) (hfirst : firstDecoded cpu read bytes = some i) :
    fetchFrom cpu pc fuel read s = (some i, s) := by
  induction bytes generalizing read fuel with
  | nil => cases hfirst
  | cons b rest ih =>
    cases fuel with
    | zero => cases hfuel
    | succ fuel =>
      have hread : memRead (pc + BitVec.ofNat 16 read.length) s = (b, s) := by
        obtain ⟨hplain, hb⟩ := hram 0 (Nat.zero_lt_succ _)
        cases hb
        exact memRead_plain s _ hplain
      have hrest (k : Nat) (hk : k < rest.length) :
          PlainAt s.cfg (pc + BitVec.ofNat 16 ((read ++ [b]).length + k)) ∧
            rest[k]? = some (s.ramByte (pc + BitVec.ofNat 16 ((read ++ [b]).length + k))) := by
        have hnext : (read ++ [b]).length + k = read.length + (k + 1) := by
          rw [List.length_append, List.length_singleton, Nat.add_assoc, Nat.add_comm 1]
        rw [hnext]
        exact hram (k + 1) (Nat.succ_lt_succ hk)
      cases hd : decode cpu (read ++ [b]) with
      | ok j =>
        simp only [firstDecoded, hd] at hfirst
        simp only [fetchFrom, hread, hd, hfirst]
      | error e =>
        simp only [firstDecoded, hd] at hfirst
        simp only [fetchFrom, hread, hd]
        exact ih hrest (Nat.le_of_succ_le_succ hfuel) hfirst

/-- The first instruction found in the encoding of `i` is `i`: no proper start of the encoding decodes. -/
abbrev FoundInItsEncoding (i : Instr) : Prop := firstDecoded i.cpu [] (encode i) = some i

/-- A 16-bit operand is read back from its two bytes (R171). -/
theorem FoundInItsEncoding.word {k : Word → Instr} {nn : Word}
    (h : firstDecoded (k nn).cpu [] (encode (k nn)) = some (k (mk16 (hi8 nn) (lo8 nn)))) : FoundInItsEncoding (k nn) := by
  rw [FoundInItsEncoding, h, mk16_hi8_lo8]

/-! ## The fields of an opcode byte put together from them (R172) -/

section Fields
variable (x : BitVec 2) (y z : BitVec 3)

theorem fieldX_append : fieldX (x ++ y ++ z) = x.toNat := by decide +revert
theorem fieldZ_append : fieldZ (x ++ y ++ z) = z.toNat := by decide +revert
theorem extractY_append : (x ++ y ++ z).extractLsb' 3 3 = y := by decide +revert
theorem extractZ_append : (x ++ y ++ z).extractLsb' 0 3 = z := by decide +revert

end Fields

/-- The page `CB` takes two bytes (R179). -/
theorem firstDecoded_cb (op : Byte) : firstDecoded .z80 [] [0xCB, op] = some (decodeCb op) := rfl

/-- The pages `DD CB` and `FD CB` take four bytes (R182). -/
theorem firstDecoded_xycb (xy : XYReg) (d op : Byte) :
    firstDecoded .z80 [] [xy.px, 0xCB, d, op] = some (decodeXyCb xy d op) := by
  cases xy <;> rfl

/-- Every well-formed instruction is found in its encoding, and not before its last byte: one arm per form of its bytes (R170 to
R204). -/
theorem encode_found : ∀ i : Instr, i.wf = true → FoundInItsEncoding i
  | .zNop, _ | .zExAfAf, _ | .zDjnz .., _ | .zJr .., _ | .zLdMemBcA, _ | .zLdMemDeA, _ | .zLdAMemBc, _ | .zLdAMemDe, _
  | .zIncMemHl, _ | .zDecMemHl, _ | .zLdMemHlN .., _ | .zRlca, _ | .zRrca, _ | .zRla, _ | .zRra, _ | .zDaa, _ | .zCpl, _
  | .zScf, _ | .zCcf, _ | .zHalt, _ | .zAddAMemHl, _ | .zAddAN .., _ | .zAdcAMemHl, _ | .zAdcAN .., _ | .zSubMemHl, _
  | .zSubN .., _ | .zSbcAMemHl, _ | .zSbcAN .., _ | .zAndMemHl, _ | .zAndN .., _ | .zXorMemHl, _ | .zXorN .., _ | .zOrMemHl, _
  | .zOrN .., _ | .zCpMemHl, _ | .zCpN .., _ | .zRet, _ | .zExx, _ | .zJpHl, _ | .zLdSpHl, _ | .zOutNA .., _ | .zInAN .., _
  | .zExMemSpHl, _ | .zExDeHl, _ | .zDi, _ | .zEi, _ | .zRlcMemHl, _ | .zRrcMemHl, _ | .zRlMemHl, _ | .zRrMemHl, _
  | .zSlaMemHl, _ | .zSraMemHl, _ | .zSllMemHl, _ | .zSrlMemHl, _ | .zInFC, _ | .zOutC0, _ | .zNeg, _ | .zRetn, _ | .zReti, _
  | .zIm0, _ | .zIm1, _ | .zIm2, _ | .zIm0Copy4E, _ | .zIm0Copy66, _ | .zIm0Copy6E, _ | .zIm1Copy, _ | .zIm2Copy, _ | .zLdIA, _
  | .zLdRA, _ | .zLdAI, _ | .zLdAR, _ | .zRrd, _ | .zRld, _ | .zLdi, _ | .zCpi, _ | .zIni, _ | .zOuti, _ | .zLdd, _ | .zCpd, _
  | .zInd, _ | .zOutd, _ | .zLdir, _ | .zCpir, _ | .zInir, _ | .zOtir, _ | .zLddr, _ | .zCpdr, _ | .zIndr, _ | .zOtdr, _
  | .mBrk, _ | .mOraIzx .., _ | .mOraZp .., _ | .mAslZp .., _ | .mPhp, _ | .mOraImm .., _ | .mAslA, _ | .mBpl .., _
  | .mOraIzy .., _ | .mOraZpX .., _ | .mAslZpX .., _ | .mClc, _ | .mAndIzx .., _ | .mBitZp .., _ | .mAndZp .., _
  | .mRolZp .., _ | .mPlp, _ | .mAndImm .., _ | .mRolA, _ | .mBmi .., _ | .mAndIzy .., _ | .mAndZpX .., _ | .mRolZpX .., _
  | .mSec, _ | .mRti, _ | .mEorIzx .., _ | .mEorZp .., _ | .mLsrZp .., _ | .mPha, _ | .mEorImm .., _ | .mLsrA, _ | .mBvc .., _
  | .mEorIzy .., _ | .mEorZpX .., _ | .mLsrZpX .., _ | .mCli, _ | .mRts, _ | .mAdcIzx .., _ | .mAdcZp .., _ | .mRorZp .., _
  | .mPla, _ | .mAdcImm .., _ | .mRorA, _ | .mBvs .., _ | .mAdcIzy .., _ | .mAdcZpX .., _ | .mRorZpX .., _ | .mSei, _
  | .mStaIzx .., _ | .mStyZp .., _ | .mStaZp .., _ | .mStxZp .., _ | .mDey, _ | .mTxa, _ | .mBcc .., _ | .mStaIzy .., _
  | .mStyZpX .., _ | .mStaZpX .., _ | .mStxZpY .., _ | .mTya, _ | .mTxs, _ | .mLdyImm .., _ | .mLdaIzx .., _ | .mLdxImm .., _
  | .mLdyZp .., _ | .mLdaZp .., _ | .mLdxZp .., _ | .mTay, _ | .mLdaImm .., _ | .mTax, _ | .mBcs .., _ | .mLdaIzy .., _
  | .mLdyZpX .., _ | .mLdaZpX .., _ | .mLdxZpY .., _ | .mClv, _ | .mTsx, _ | .mCpyImm .., _ | .mCmpIzx .., _ | .mCpyZp .., _
  | .mCmpZp .., _ | .mDecZp .., _ | .mIny, _ | .mCmpImm .., _ | .mDex, _ | .mBne .., _ | .mCmpIzy .., _ | .mCmpZpX .., _
  | .mDecZpX .., _ | .mCld, _ | .mCpxImm .., _ | .mSbcIzx .., _ | .mCpxZp .., _ | .mSbcZp .., _ | .mIncZp .., _ | .mInx, _
  | .mSbcImm .., _ | .mNop, _ | .mBeq .., _ | .mSbcIzy .., _ | .mSbcZpX .., _ | .mIncZpX .., _ | .mSed, _ => rfl
  | .zLdMemNnHl .., _ | .zLdMemNnA .., _ | .zLdHlMemNn .., _ | .zLdAMemNn .., _ | .zJpNn .., _ | .zCallNn .., _
  | .mOraAbs .., _ | .mAslAbs .., _ | .mOraAbsY .., _ | .mOraAbsX .., _ | .mAslAbsX .., _ | .mJsr .., _ | .mBitAbs .., _
  | .mAndAbs .., _ | .mRolAbs .., _ | .mAndAbsY .., _ | .mAndAbsX .., _ | .mRolAbsX .., _ | .mJmpAbs .., _ | .mEorAbs .., _
  | .mLsrAbs .., _ | .mEorAbsY .., _ | .mEorAbsX .., _ | .mLsrAbsX .., _ | .mJmpInd .., _ | .mAdcAbs .., _ | .mRorAbs .., _
  | .mAdcAbsY .., _ | .mAdcAbsX .., _ | .mRorAbsX .., _ | .mStyAbs .., _ | .mStaAbs .., _ | .mStxAbs .., _ | .mStaAbsY .., _
  | .mStaAbsX .., _ | .mLdyAbs .., _ | .mLdaAbs .., _ | .mLdxAbs .., _ | .mLdaAbsY .., _ | .mLdyAbsX .., _ | .mLdaAbsX .., _
  | .mLdxAbsY .., _ | .mCpyAbs .., _ | .mCmpAbs .., _ | .mDecAbs .., _ | .mCmpAbsY .., _ | .mCmpAbsX .., _ | .mDecAbsX .., _
  | .mCpxAbs .., _ | .mSbcAbs .., _ | .mIncAbs .., _ | .mSbcAbsY .., _ | .mSbcAbsX .., _ | .mIncAbsX .., _ => .word rfl
  | .zJrCc r _, _ | .zAddHlSs r, _ | .zIncSs r, _ | .zDecSs r, _ | .zIncR r, _ | .zDecR r, _ | .zLdRN r _, _ | .zLdRMemHl r, _
  | .zLdMemHlR r, _ | .zAddAR r, _ | .zAdcAR r, _ | .zSubR r, _ | .zSbcAR r, _ | .zAndR r, _ | .zXorR r, _ | .zOrR r, _
  | .zCpR r, _ | .zRetCc r, _ | .zPopQq r, _ | .zPushQq r, _ | .zRlcR r, _ | .zRrcR r, _ | .zRlR r, _ | .zRrR r, _
  | .zSlaR r, _ | .zSraR r, _ | .zSllR r, _ | .zSrlR r, _ | .zInRC r, _ | .zOutCR r, _ | .zSbcHlSs r, _ | .zAdcHlSs r, _
  | .zIncXy r, _ | .zDecXy r, _ | .zIncMemXy r _, _ | .zDecMemXy r _, _ | .zLdMemXyN r _ _, _ | .zAddAMemXy r _, _
  | .zAdcAMemXy r _, _ | .zSubMemXy r _, _ | .zSbcAMemXy r _, _ | .zAndMemXy r _, _ | .zXorMemXy r _, _ | .zOrMemXy r _, _
  | .zCpMemXy r _, _ | .zPopXy r, _ | .zExMemSpXy r, _ | .zPushXy r, _ | .zJpXy r, _ | .zLdSpXy r, _ | .zRlcMemXy r _, _
  | .zRrcMemXy r _, _ | .zRlMemXy r _, _ | .zRrMemXy r _, _ | .zSlaMemXy r _, _ | .zSraMemXy r _, _ | .zSllMemXy r _, _
  | .zSrlMemXy r _, _ => by cases r <;> rfl
  | .zLdDdNn r _, _ | .zJpCcNn r _, _ | .zCallCcNn r _, _ | .zLdMemNnDd r _, _ | .zLdDdMemNn r _, _ | .zLdXyNn r _, _
  | .zLdMemNnXy r _, _ | .zLdXyMemNn r _, _ => by cases r <;> exact .word rfl
  | .zLdRR r q, _ | .zAddXyPp r q, _ | .zIncXyHalf r q, _ | .zDecXyHalf r q, _ | .zLdXyHalfN r q _, _ | .zLdRMemXy r q _, _
  | .zLdMemXyR r q _, _ | .zAddAXyHalf r q, _ | .zAdcAXyHalf r q, _ | .zSubXyHalf r q, _ | .zSbcAXyHalf r q, _
  | .zAndXyHalf r q, _ | .zXorXyHalf r q, _ | .zOrXyHalf r q, _ | .zCpXyHalf r q, _ | .zPrefixPrefix r q, _ =>
    by cases r <;> cases q <;> rfl
  | .zLdXyHalfR xy l r, _ | .zRotMemXyR xy _ l r, _ => by cases xy <;> cases l <;> cases r <;> rfl
  | .zRst b, _ => by decide +revert
  | .zNegCopy b, h | .zRetnCopy b, h => by decide +revert
  | .zBitBMemHl b, _ | .zResBMemHl b, _ | .zSetBMemHl b, _ =>
    (firstDecoded_cb _).trans (by simp [decodeCb, fieldX_append, fieldZ_append, extractY_append, onReg])
  | .zBitBR b r, _ | .zResBR b r, _ | .zSetBR b r, _ =>
    (firstDecoded_cb _).trans (by cases r <;> simp [decodeCb, fieldX_append, fieldZ_append, extractY_append, onReg, Reg8.code])
  | .zBitBMemXy xy d b, _ => (firstDecoded_xycb xy d _).trans (by simp [decodeXyCb, fieldX_append, fieldZ_append, extractY_append])
  | .zBitBMemXyZ xy d b z, h => (firstDecoded_xycb xy d _).trans (by
      have hz : z.toNat ≠ 6 := by simpa [Instr.wf, ← BitVec.toNat_inj] using h
      simp [decodeXyCb, fieldX_append, fieldZ_append, extractY_append, extractZ_append, hz])
  | .zResBMemXy xy d b, _ | .zSetBMemXy xy d b, _ =>
    (firstDecoded_xycb xy d _).trans (by simp [decodeXyCb, fieldX_append, fieldZ_append, extractY_append, onReg])
  | .zResBMemXyR xy d b r, _ | .zSetBMemXyR xy d b r, _ =>
    (firstDecoded_xycb xy d _).trans (by
      cases r <;> simp [decodeXyCb, fieldX_append, fieldZ_append, extractY_append, onReg, Reg8.code])
  | .zLdRXyHalf xy .b l, _ | .zLdRXyHalf xy .c l, _ | .zLdRXyHalf xy .d l, _ | .zLdRXyHalf xy .e l, _ | .zLdRXyHalf xy .a l, _ =>
    by cases xy <;> cases l <;> rfl
  | .zPrefix xy b, h => by cases xy <;> decide +kernel +revert
  | .zIllegalEd op, h | .mIllegal op, h => by decide +kernel +revert

theorem encode_length_le (i : Instr) : (encode i).length ≤ 4 := by
  cases i <;> exact Nat.le_of_ble_eq_true rfl

/-- Settles O4: the fetch is `firstDecoded` of the bytes in RAM (`fetchFrom_plain`), which finds the instruction
(`encode_found`). -/
theorem fetchFindsTheInstructionAtPc : Obligations.FetchFindsTheInstructionAtPc := by
  intro i s hwf hcpu hram
  refine fetchFrom_plain (bytes := encode i) ?_ (encode_length_le i) ?_
  · simpa using hram
  · rw [← hcpu]
    exact encode_found i hwf

end Sys2Proof.Machine
end

/-! What an instruction accesses, said once: `Accesses s ports addrs n t` bounds the accesses on the way from `s` to `t` and says
whether they may go to a port and where the stores go; `exec_accesses` gives it for every instruction with the tables `usesPorts`
and `storedAt`. -/
section
namespace Sys2Proof.Machine

variable {s t u : State} {ports : Bool} {addrs : List Word} {n : Nat}

/-- From `s` the CPU comes to the state given by at most `n` accesses, the stores among them at the addresses listed, ports only
where `ports` says so, and by changes of the CPU records, outputs and steps of the counter (R131, R133). -/
inductive Accesses (s : State) (ports : Bool) (addrs : List Word) : Nat → State → Prop
  | refl {n : Nat} : Accesses s ports addrs n s
  | onZ {n : Nat} {t : State} (h : Accesses s ports addrs n t) (f : Z80 → Z80) : Accesses s ports addrs n (t.onZ f)
  | onM {n : Nat} {t : State} (h : Accesses s ports addrs n t) (f : M6502 → M6502) : Accesses s ports addrs n (t.onM f)
  | emit {n : Nat} {t : State} (h : Accesses s ports addrs n t) (e : Event) : Accesses s ports addrs n (t.emit e)
  | tick {n : Nat} {t : State} (h : Accesses s ports addrs n t) : Accesses s ports addrs n { t with tick := t.tick + 1 }
  | read {n : Nat} {t : State} (h : Accesses s ports addrs n t) (a : Word) : Accesses s ports addrs (n + 1) (memRead a t).2
  | write {n : Nat} {t : State} (h : Accesses s ports addrs n t) {a : Word} (ha : a ∈ addrs) (v : Byte) :
    Accesses s ports addrs (n + 1) (memWrite a v t)
  | input {n : Nat} {t : State} (h : Accesses s ports addrs n t) (hp : ports = true) (p : Word) :
    Accesses s ports addrs (n + 1) (portIn p t).2
  | output {n : Nat} {t : State} (h : Accesses s ports addrs n t) (hp : ports = true) (p : Word) (v : Byte) :
    Accesses s ports addrs (n + 1) (portOut p v t)

/-! ## What accesses leave alone -/

/-- Only the addresses stored to change (R139). -/
theorem Accesses.ramByte (h : Accesses s ports addrs n t) {a : Word} (ha : a ∉ addrs) : t.ramByte a = s.ramByte a := by
  induction h with
  | refl => rfl
  | onZ _ f ih | onM _ f ih | emit _ f ih => exact ih
  | tick _ ih => exact ih
  | read _ b ih => exact (State.ramByte_congr _ _ (memRead_mem _ b) a).trans ih
  | write _ hb v ih => exact (memWrite_ramByte_other _ _ a v fun hab => ha (hab ▸ hb)).trans ih
  | input _ _ p ih => exact (State.ramByte_congr _ _ (portIn_mem _ p) a).trans ih
  | output _ _ p v ih => exact (State.ramByte_congr _ _ (portOut_mem _ p v) a).trans ih

/-- No request is withdrawn (R824). -/
theorem Accesses.keepsLatched (h : Accesses s ports addrs n t) : KeepsLatched s t := by
  induction h with
  | refl => exact .of_ic rfl
  | onZ _ f ih | onM _ f ih | emit _ f ih => exact ih
  | tick _ ih => exact ih
  | read _ a ih => exact ih.trans (memRead_keepsLatched _ a)
  | write _ _ v ih => exact ih.trans (memWrite_keepsLatched _ _ v)
  | input _ _ p ih => exact ih.trans (portIn_keepsLatched _ p)
  | output _ _ p v ih => exact ih.trans (portOut_keepsLatched _ p v)

theorem Calm.of_le {m : Nat} (h : Calm n s) (hle : m ≤ n) : Calm m s := by
  obtain ⟨hlen, hrest⟩ := h
  exact ⟨hle.trans hlen, hrest⟩

/-- Under calm hooks accesses reach neither the VDP nor a latch. -/
theorem Accesses.calm (h : Accesses s ports addrs n t) {k : Nat} (hk : Calm (n + k) s) :
    t.vdp = s.vdp ∧ t.ic = s.ic ∧ Calm k t := by
  induction h generalizing k with
  | refl => exact ⟨rfl, rfl, hk.of_le (Nat.le_add_left _ _)⟩
  | onZ _ f ih | onM _ f ih | emit _ f ih => exact ih hk
  | tick _ ih => exact ih hk
  | read _ a ih =>
    obtain ⟨hv, hic, ht⟩ := ih (k := k + 1) (hk.of_le (by omega))
    obtain ⟨hv', hic', hu⟩ := memRead_calm _ a ht
    exact ⟨hv'.trans hv, hic'.trans hic, hu⟩
  | write _ _ v ih =>
    obtain ⟨hv, hic, ht⟩ := ih (k := k + 1) (hk.of_le (by omega))
    obtain ⟨hv', hic', hu⟩ := memWrite_calm _ _ v ht
    exact ⟨hv'.trans hv, hic'.trans hic, hu⟩
  | input _ _ p ih =>
    obtain ⟨hv, hic, ht⟩ := ih (k := k + 1) (hk.of_le (by omega))
    obtain ⟨hv', hic', hu⟩ := portIn_calm _ p ht
    exact ⟨hv'.trans hv, hic'.trans hic, hu⟩
  | output _ _ p v ih =>
    obtain ⟨hv, hic, ht⟩ := ih (k := k + 1) (hk.of_le (by omega))
    obtain ⟨hv', hic', hu⟩ := portOut_calm _ p v ht
    exact ⟨hv'.trans hv, hic'.trans hic, hu⟩

/-- On plain RAM, without ports, accesses reach neither the VDP nor a latch. -/
theorem Accesses.plain (h : Accesses s ports addrs n t) (hports : ports = false) (hplain : ∀ a, PlainAt s.cfg a) :
    t.vdp = s.vdp ∧ t.ic = s.ic ∧ ∀ a, PlainAt t.cfg a := by
  induction h with
  | refl => exact ⟨rfl, rfl, hplain⟩
  | onZ _ f ih | onM _ f ih | emit _ f ih => exact ih
  | tick _ ih => exact ih
  | read _ a ih =>
    obtain ⟨hv, hic, ht⟩ := ih
    rw [memRead_plain _ a (ht a)]
    exact ⟨hv, hic, ht⟩
  | write _ _ v ih =>
    obtain ⟨hv, hic, ht⟩ := ih
    rw [memWrite_plain _ _ v (ht _)]
    exact ⟨hv, hic, ht⟩
  | input _ hp | output _ hp => exact nomatch hports.symm.trans hp

/-! ## The shared operations -/

/-- A bound on the number of accesses may be raised. -/
theorem Accesses.of_le (h : Accesses s ports addrs n t) {m : Nat} (hle : n ≤ m) : Accesses s ports addrs m t := by
  induction h generalizing m with
  | refl => exact .refl
  | onZ _ f ih => exact (ih hle).onZ f
  | onM _ f ih => exact (ih hle).onM f
  | emit _ e ih => exact (ih hle).emit e
  | tick _ ih => exact (ih hle).tick
  | read _ a ih =>
    obtain ⟨k, rfl⟩ := Nat.exists_eq_add_of_le' hle
    exact (ih (Nat.le_add_left _ k)).read a
  | write _ ha v ih =>
    obtain ⟨k, rfl⟩ := Nat.exists_eq_add_of_le' hle
    exact (ih (Nat.le_add_left _ k)).write ha v
  | input _ hp p ih =>
    obtain ⟨k, rfl⟩ := Nat.exists_eq_add_of_le' hle
    exact (ih (Nat.le_add_left _ k)).input hp p
  | output _ hp p v ih =>
    obtain ⟨k, rfl⟩ := Nat.exists_eq_add_of_le' hle
    exact (ih (Nat.le_add_left _ k)).output hp p v

/-- A choice between two ways is a way; the first is taken only where the condition holds. -/
theorem Accesses.choice {p : Prop} [Decidable p] (ht : p → Accesses s ports addrs n t) (hu : Accesses s ports addrs n u) :
    Accesses s ports addrs n (if p then t else u) := by
  split
  next hp => exact ht hp
  · exact hu

theorem cycZ_accesses (h : Accesses s ports addrs n t) (k : Nat) : Accesses s ports addrs n (cycZ k t) := h.onZ _

theorem cycM_accesses (h : Accesses s ports addrs n t) (k : Nat) : Accesses s ports addrs n (cycM k t) := h.onM _

theorem jumpZ_accesses (h : Accesses s ports addrs n t) (a : Word) : Accesses s ports addrs n (jumpZ a t) := h.onZ _

theorem memRead16_accesses (h : Accesses s ports addrs n t) (a : Word) : Accesses s ports addrs (n + 2) (memRead16 a t).2 :=
  (h.read a).read (a + 1)

theorem memWrite16_accesses (h : Accesses s ports addrs n t) {a : Word} (ha : [a, a + 1] ⊆ addrs) (v : Word) :
    Accesses s ports addrs (n + 2) (memWrite16 a v t) :=
  (h.write (ha (by simp)) _).write (ha (by simp)) _

theorem pushZ_accesses (h : Accesses s ports addrs n t) (ha : pushedAt t.z.sp ⊆ addrs) (v : Word) :
    Accesses s ports addrs (n + 2) (pushZ v t) := by
  rw [pushZ_eq]
  exact ((h.write (ha (by simp [pushedAt])) _).write (ha (by simp [pushedAt])) _).onZ _

theorem popZ_accesses (h : Accesses s ports addrs n t) : Accesses s ports addrs (n + 2) (popZ t).2 := by
  rw [popZ_eq]
  dsimp only
  exact ((h.read _).read _).onZ _

theorem popPC_accesses (h : Accesses s ports addrs n t) : Accesses s ports addrs (n + 2) (popPC t) :=
  jumpZ_accesses (popZ_accesses h) _

theorem returnZ_accesses (h : Accesses s ports addrs n t) : Accesses s ports addrs (n + 2) (returnZ t) := (popPC_accesses h).onZ _

theorem pushM_accesses (h : Accesses s ports addrs n t) (ha : stackAddr t.m.s ∈ addrs) (v : Byte) :
    Accesses s ports addrs (n + 1) (pushM v t) :=
  (h.write ha _).onM _

theorem pushM16_accesses (h : Accesses s ports addrs n t) (ha : [stackAddr t.m.s, stackAddr (t.m.s - 1)] ⊆ addrs) (v : Word) :
    Accesses s ports addrs (n + 2) (pushM16 v t) := by
  rw [pushM16_eq]
  exact ((h.write (ha (by simp)) _).write (ha (by simp)) _).onM _

theorem pullM_accesses (h : Accesses s ports addrs n t) : Accesses s ports addrs (n + 1) (pullM t).2 := (h.onM _).read _

theorem pullM16_accesses (h : Accesses s ports addrs n t) : Accesses s ports addrs (n + 2) (pullM16 t).2 :=
  pullM_accesses (pullM_accesses h)

/-- `BRK`: three stores, then the two reads of the vector (R645). -/
theorem vectorM_accesses (h : Accesses s ports addrs n t)
    (ha : [stackAddr t.m.s, stackAddr (t.m.s - 1), stackAddr (t.m.s - 2)] ⊆ addrs) (ret : Word) (b : Bool) (vec : Word) :
    Accesses s ports addrs (n + 5) (vectorM ret b vec t) := by
  have hpushed : Accesses s ports addrs (n + 3) (vectorPushed ret b t) :=
    ((h.write (ha (by simp)) _).write (ha (by simp)) _).write (ha (by simp)) _
  rw [vectorM_eq]
  exact ((hpushed.read _).read _).onM _

theorem returnM_accesses (h : Accesses s ports addrs n t) : Accesses s ports addrs (n + 3) (returnM t) := by
  rw [returnM_eq]
  exact (((h.read _).read _).read _).onM _

theorem illegalHook_accesses (h : Accesses s ports addrs n t) (a : Word) (bytes : List Byte) :
    Accesses s ports addrs n (illegalHook a bytes t) :=
  .choice (fun _ => h.emit _) h

theorem modifyZ_accesses (h : Accesses s ports addrs n t) {a : Word} (ha : a ∈ addrs) (op : Byte → Byte → Byte × Byte) :
    Accesses s ports addrs (n + 2) (modifyZ a op t) := by
  unfold modifyZ
  exact ((h.read a).write ha _).onZ _

theorem exchangeSP_accesses (h : Accesses s ports addrs n t) (ha : [t.z.sp, t.z.sp + 1] ⊆ addrs) (v : Word) :
    Accesses s ports addrs (n + 4) (exchangeSP v t).2 :=
  ((memRead16_accesses h _).write (ha (by simp)) _).write (ha (by simp)) _

theorem blockLoad_accesses (h : Accesses s ports addrs n t) (ha : t.z.de ∈ addrs) (d : Word) :
    Accesses s ports addrs (n + 2) (blockLoad d t) := by
  unfold blockLoad
  exact ((h.read _).write ha _).onZ _

theorem blockCompare_accesses (h : Accesses s ports addrs n t) (d : Word) : Accesses s ports addrs (n + 1) (blockCompare d t) := by
  unfold blockCompare
  exact (h.read _).onZ _

theorem blockIn_accesses (h : Accesses s ports addrs n t) (hp : ports = true) (ha : t.z.hl ∈ addrs) (d : Word) (j : Byte) :
    Accesses s ports addrs (n + 2) (blockIn d j t) := by
  unfold blockIn
  exact ((h.input hp _).write (by rwa [portIn_z]) _).onZ _

theorem blockOut_accesses (h : Accesses s ports addrs n t) (hp : ports = true) (d : Word) :
    Accesses s ports addrs (n + 2) (blockOut d t) := by
  unfold blockOut
  exact (((h.read _).onZ _).output hp _ _).onZ _

theorem repeatIf_accesses (h : Accesses s ports addrs n t) (test : Z80 → Bool) : Accesses s ports addrs n (repeatIf test t) :=
  .choice (fun _ => cycZ_accesses (jumpZ_accesses h _) _) h

theorem decimalRotate_accesses (h : Accesses s ports addrs n t) (ha : t.z.hl ∈ addrs) (op : Byte → Byte → Byte × Byte) :
    Accesses s ports addrs (n + 2) (decimalRotate op t) := by
  unfold decimalRotate
  exact ((h.read _).write ha _).onZ _

/-- Forming an address reads at most the two bytes of a pointer (R545 to R553). -/
theorem addressOf_accesses (h : Accesses s ports addrs n t) (mode : AddrMode) :
    Accesses s ports addrs (n + 2) (addressOf mode t).2 := by
  cases mode with
  | izx b | izy b => exact (h.read _).read _
  | zp b | zpx b | zpy b | abs a | abx a | aby a => exact h.of_le (Nat.le_add_right n 2)

theorem readM_accesses (h : Accesses s ports addrs n t) (mode : AddrMode) (f : Byte → M6502 → M6502) :
    Accesses s ports addrs (n + 3) (readM mode f t) :=
  have ha := addressOf_accesses h mode
  ((Accesses.choice (fun _ => cycM_accesses ha _) ha).read _).onM _

theorem storeM_accesses (h : Accesses s ports addrs n t) {mode : AddrMode} (ha : (addressOf mode t).1.2 ∈ addrs)
    (v : M6502 → Byte) : Accesses s ports addrs (n + 3) (storeM mode v t) :=
  (addressOf_accesses h mode).write ha _

theorem modifyM_accesses (h : Accesses s ports addrs n t) {mode : AddrMode} (ha : (addressOf mode t).1.2 ∈ addrs)
    (op : Byte → M6502 → Byte × M6502) : Accesses s ports addrs (n + 4) (modifyM mode op t) := by
  unfold modifyM
  exact (((addressOf_accesses h mode).read _).write ha _).onM _

theorem branchM_accesses (h : Accesses s ports addrs n t) (cond : Bool) (b : Byte) : Accesses s ports addrs n (branchM cond b t) :=
  .choice (fun _ => (cycM_accesses h _).onM _) h

theorem indirectTarget_accesses (h : Accesses s ports addrs n t) (ptr : Word) :
    Accesses s ports addrs (n + 2) (indirectTarget ptr t).2 :=
  (h.read _).read _

/-! ## The instructions -/

/-- The result `r` is a next state that the CPU comes to by at most eight accesses of the kind described. -/
def Within (s : State) (ports : Bool) (addrs : List Word) (r : Result) : Prop := ∃ t, r = .next t ∧ Accesses s ports addrs 8 t

theorem Within.next (h : Accesses s ports addrs 8 t) : Within s ports addrs (.next t) := ⟨t, rfl, h⟩

theorem Within.accesses {r : Result} (h : Within s ports addrs r) (hr : r = .next t) : Accesses s ports addrs 8 t := by
  obtain ⟨u, hu, ha⟩ := h
  cases hu.symm.trans hr
  exact ha

theorem regsZ_within (f : Z80 → Z80) : Within s ports addrs (regsZ f s) := .next (.onZ .refl f)

theorem regsM_within (f : M6502 → M6502) : Within s ports addrs (regsM f s) := .next (.onM .refl f)

theorem loadZ_within (a : Word) (f : Byte → Z80 → Z80) : Within s ports addrs (loadZ a f s) := .next ((Accesses.refl.read a).onZ _)

theorem loadZ16_within (a : Word) (f : Word → Z80 → Z80) : Within s ports addrs (loadZ16 a f s) :=
  .next ((memRead16_accesses .refl a).onZ _)

theorem inputC_within (hp : ports = true) (f : Byte → Z80 → Z80) : Within s ports addrs (inputC f s) :=
  .next ((Accesses.refl.input hp _).onZ _)

theorem modifyCopy_within {xy : XYReg} {d : Byte} (ha : s.z.ea xy d ∈ addrs) (r : Reg8) (op : Byte → Byte → Byte × Byte) :
    Within s ports addrs (modifyCopy xy d r op s) :=
  .next (((Accesses.refl.read _).write ha _).onZ _)

theorem bitIndexed_within (xy : XYReg) (d : Byte) (b : BitVec 3) : Within s ports addrs (bitIndexed xy d b s) := by
  unfold bitIndexed
  exact loadZ_within _ _

/-- An undocumented encoding accesses what its meaning does, where it has one, else nothing (R184, R500). -/
theorem undocumented_within {i : Instr} {meaning : State → Result}
    (h : s.cfg.z80Undoc = true → Within s ports addrs (meaning s)) : Within s ports addrs (undocumented i meaning s) := by
  unfold undocumented
  split
  next hundoc => exact h hundoc
  · exact .next (illegalHook_accesses .refl _ _)

/-- The addresses stored to where a condition holds. -/
theorem subset_ite {p : Prop} [Decidable p] {l m : List Word} (h : p) : l ⊆ if p then l else m := by
  rw [if_pos h]
  exact List.Subset.refl l

/-- The address an undocumented encoding stores to, where it has its meaning (R500). -/
theorem mem_ite_undoc {a : Word} (h : s.cfg.z80Undoc = true) : a ∈ if s.cfg.z80Undoc then [a] else [] :=
  subset_ite h (List.mem_singleton_self a)

/-- Every instruction accesses ports only if its rule names them, stores only where its rule says, and makes at most eight accesses:
one arm per form its meaning has (spec/40_z80_load.md to spec/47_m6502_b.md). -/
theorem exec_accesses : ∀ i : Instr, Within s i.usesPorts (storedAt i s) (exec i s)
  | .zNop .. | .zPrefix .. | .zPrefixPrefix .. => .next .refl
  | .zAddHlSs .. | .zIncSs .. | .zDecSs .. | .zIncR .. | .zDecR .. | .zDaa .. | .zCpl .. | .zScf .. | .zCcf .. | .zAddAR ..
  | .zAddAN .. | .zAdcAR .. | .zAdcAN .. | .zSubR .. | .zSubN .. | .zSbcAR .. | .zSbcAN .. | .zAndR .. | .zAndN .. | .zXorR ..
  | .zXorN .. | .zOrR .. | .zOrN .. | .zCpR .. | .zCpN .. | .zSbcHlSs .. | .zAdcHlSs .. | .zNeg .. | .zAddXyPp .. | .zIncXy ..
  | .zDecXy .. | .zHalt .. | .zDi .. | .zEi .. | .zIm0 .. | .zIm1 .. | .zIm2 .. | .zExAfAf .. | .zLdDdNn .. | .zLdRN ..
  | .zLdRR .. | .zExx .. | .zLdSpHl .. | .zExDeHl .. | .zLdIA .. | .zLdRA .. | .zLdAI .. | .zLdAR .. | .zLdXyNn ..
  | .zLdSpXy .. | .zRlca .. | .zRrca .. | .zRla .. | .zRra .. | .zRlcR .. | .zRrcR .. | .zRlR .. | .zRrR .. | .zSlaR ..
  | .zSraR .. | .zSrlR .. | .zBitBR .. | .zResBR .. | .zSetBR .. => regsZ_within _
  | .zSllR .. | .zNegCopy .. | .zIm0Copy4E .. | .zIm0Copy66 .. | .zIm0Copy6E .. | .zIm1Copy .. | .zIm2Copy .. | .zIncXyHalf ..
  | .zDecXyHalf .. | .zLdXyHalfN .. | .zLdXyHalfR .. | .zLdRXyHalf .. | .zAddAXyHalf .. | .zAdcAXyHalf .. | .zSubXyHalf ..
  | .zSbcAXyHalf .. | .zAndXyHalf .. | .zXorXyHalf .. | .zOrXyHalf .. | .zCpXyHalf .. =>
    undocumented_within fun _ => regsZ_within _
  | .zAddAMemHl .. | .zAdcAMemHl .. | .zSubMemHl .. | .zSbcAMemHl .. | .zAndMemHl .. | .zXorMemHl .. | .zOrMemHl ..
  | .zCpMemHl .. | .zAddAMemXy .. | .zAdcAMemXy .. | .zSubMemXy .. | .zSbcAMemXy .. | .zAndMemXy .. | .zXorMemXy ..
  | .zOrMemXy .. | .zCpMemXy .. | .zLdAMemBc .. | .zLdAMemDe .. | .zLdAMemNn .. | .zLdRMemHl .. | .zLdRMemXy .. =>
    loadZ_within _ _
  | .zBitBMemXy .. => bitIndexed_within _ _ _
  | .zBitBMemXyZ .. => undocumented_within fun _ => bitIndexed_within _ _ _
  | .zBitBMemHl .. => .next ((Accesses.refl.read _).tick.onZ _)
  | .zLdHlMemNn .. | .zLdDdMemNn .. | .zLdXyMemNn .. => loadZ16_within _ _
  | .zLdMemBcA .. | .zLdMemDeA .. | .zLdMemNnA .. | .zLdMemHlN .. | .zLdMemHlR .. | .zLdMemXyN .. | .zLdMemXyR .. =>
    .next (.write .refl (List.mem_singleton_self _) _)
  | .zLdMemNnHl .. | .zLdMemNnDd .. | .zLdMemNnXy .. => .next (memWrite16_accesses .refl (List.Subset.refl _) _)
  | .zIncMemHl .. | .zDecMemHl .. | .zIncMemXy .. | .zDecMemXy .. | .zRlcMemHl .. | .zRrcMemHl .. | .zRlMemHl .. | .zRrMemHl ..
  | .zSlaMemHl .. | .zSraMemHl .. | .zSrlMemHl .. | .zResBMemHl .. | .zSetBMemHl .. | .zRlcMemXy .. | .zRrcMemXy ..
  | .zRlMemXy .. | .zRrMemXy .. | .zSlaMemXy .. | .zSraMemXy .. | .zSrlMemXy .. | .zResBMemXy .. | .zSetBMemXy .. =>
    .next (modifyZ_accesses .refl (List.mem_singleton_self _) _)
  | .zSllMemHl .. =>
    undocumented_within (meaning := fun s => .next (modifyZ s.z.hl (rotateM .sll) s)) fun h =>
      .next (modifyZ_accesses .refl (mem_ite_undoc h) _)
  | .zSllMemXy xy d =>
    undocumented_within (meaning := fun s => .next (modifyZ (s.z.ea xy d) (rotateM .sll) s)) fun h =>
      .next (modifyZ_accesses .refl (mem_ite_undoc h) _)
  | .zRotMemXyR .. | .zResBMemXyR .. | .zSetBMemXyR .. => undocumented_within fun h => modifyCopy_within (mem_ite_undoc h) _ _
  | .zRrd .. | .zRld .. => .next (decimalRotate_accesses .refl (List.mem_singleton_self _) _)
  | .zPushQq .. | .zPushXy .. => .next (pushZ_accesses .refl (List.Subset.refl _) _)
  | .zPopQq .. | .zPopXy .. => .next ((popZ_accesses .refl).onZ _)
  | .zExMemSpHl .. | .zExMemSpXy .. => .next ((exchangeSP_accesses .refl (List.Subset.refl _) _).onZ _)
  | .zJr .. | .zJpHl .. | .zJpNn .. | .zJpXy .. => .next (jumpZ_accesses .refl _)
  | .zJpCcNn .. => .next (.choice (fun _ => jumpZ_accesses .refl _) .refl)
  | .zJrCc .. => .next (.choice (fun _ => cycZ_accesses (jumpZ_accesses .refl _) _) .refl)
  | .zDjnz .. => .next (.choice (fun _ => .onZ .refl _) (cycZ_accesses (jumpZ_accesses (.onZ .refl _) _) _))
  | .zCallNn .. | .zRst .. => .next (jumpZ_accesses (pushZ_accesses .refl (List.Subset.refl _) _) _)
  | .zCallCcNn .. => .next (.choice
      (fun hcc => cycZ_accesses (jumpZ_accesses (pushZ_accesses .refl (subset_ite hcc) _) _) _) .refl)
  | .zRet .. => .next (popPC_accesses .refl)
  | .zRetCc .. => .next (.choice (fun _ => cycZ_accesses (popPC_accesses .refl) _) .refl)
  | .zRetn .. | .zReti .. => .next (returnZ_accesses .refl)
  | .zRetnCopy .. => undocumented_within (meaning := fun s => .next (returnZ s)) fun _ => .next (returnZ_accesses .refl)
  | .zIllegalEd .. => .next (illegalHook_accesses .refl _ _)
  | .zInAN .. | .zInRC .. => .next ((Accesses.refl.input rfl _).onZ _)
  | .zInFC .. => undocumented_within fun _ => inputC_within rfl _
  | .zOutNA .. | .zOutCR .. => .next (Accesses.refl.output rfl _ _)
  | .zOutC0 .. => undocumented_within (meaning := fun s => .next (portOut s.z.bc 0x00 s)) fun _ => .next (.output .refl rfl _ _)
  | .zLdi .. | .zLdd .. => .next (blockLoad_accesses .refl (List.mem_singleton_self _) _)
  | .zCpi .. | .zCpd .. => .next (blockCompare_accesses .refl _)
  | .zIni .. | .zInd .. => .next (blockIn_accesses .refl rfl (List.mem_singleton_self _) _ _)
  | .zOuti .. | .zOutd .. => .next (blockOut_accesses .refl rfl _)
  | .zLdir .. | .zLddr .. => .next (repeatIf_accesses (blockLoad_accesses .refl (List.mem_singleton_self _) _) _)
  | .zCpir .. | .zCpdr .. => .next (repeatIf_accesses (blockCompare_accesses .refl _) _)
  | .zInir .. | .zIndr .. => .next (repeatIf_accesses (blockIn_accesses .refl rfl (List.mem_singleton_self _) _ _) _)
  | .zOtir .. | .zOtdr .. => .next (repeatIf_accesses (blockOut_accesses .refl rfl _) _)
  | .mNop .. => .next .refl
  | .mOraImm .. | .mAndImm .. | .mEorImm .. | .mAdcImm .. | .mDey .. | .mTxa .. | .mTya .. | .mTxs .. | .mLdyImm ..
  | .mLdxImm .. | .mTay .. | .mLdaImm .. | .mTax .. | .mTsx .. | .mCpyImm .. | .mIny .. | .mCmpImm .. | .mDex .. | .mCpxImm ..
  | .mInx .. | .mSbcImm .. | .mAslA .. | .mClc .. | .mRolA .. | .mSec .. | .mLsrA .. | .mJmpAbs .. | .mCli .. | .mRorA ..
  | .mSei .. | .mClv .. | .mCld .. | .mSed .. => regsM_within _
  | .mOraIzx .. | .mOraZp .. | .mOraAbs .. | .mOraIzy .. | .mOraZpX .. | .mOraAbsY .. | .mOraAbsX .. | .mAndIzx .. | .mBitZp ..
  | .mAndZp .. | .mBitAbs .. | .mAndAbs .. | .mAndIzy .. | .mAndZpX .. | .mAndAbsY .. | .mAndAbsX .. | .mEorIzx .. | .mEorZp ..
  | .mEorAbs .. | .mEorIzy .. | .mEorZpX .. | .mEorAbsY .. | .mEorAbsX .. | .mAdcIzx .. | .mAdcZp .. | .mAdcAbs ..
  | .mAdcIzy .. | .mAdcZpX .. | .mAdcAbsY .. | .mAdcAbsX .. | .mLdaIzx .. | .mLdyZp .. | .mLdaZp .. | .mLdxZp .. | .mLdyAbs ..
  | .mLdaAbs .. | .mLdxAbs .. | .mLdaIzy .. | .mLdyZpX .. | .mLdaZpX .. | .mLdxZpY .. | .mLdaAbsY .. | .mLdyAbsX ..
  | .mLdaAbsX .. | .mLdxAbsY .. | .mCmpIzx .. | .mCpyZp .. | .mCmpZp .. | .mCpyAbs .. | .mCmpAbs .. | .mCmpIzy .. | .mCmpZpX ..
  | .mCmpAbsY .. | .mCmpAbsX .. | .mSbcIzx .. | .mCpxZp .. | .mSbcZp .. | .mCpxAbs .. | .mSbcAbs .. | .mSbcIzy .. | .mSbcZpX ..
  | .mSbcAbsY .. | .mSbcAbsX .. => .next (readM_accesses .refl _ _)
  | .mStaIzx .. | .mStyZp .. | .mStaZp .. | .mStxZp .. | .mStyAbs .. | .mStaAbs .. | .mStxAbs .. | .mStaIzy .. | .mStyZpX ..
  | .mStaZpX .. | .mStxZpY .. | .mStaAbsY .. | .mStaAbsX .. => .next (storeM_accesses .refl (List.mem_singleton_self _) _)
  | .mDecZp .. | .mDecAbs .. | .mDecZpX .. | .mDecAbsX .. | .mIncZp .. | .mIncAbs .. | .mIncZpX .. | .mIncAbsX .. | .mAslZp ..
  | .mAslAbs .. | .mAslZpX .. | .mAslAbsX .. | .mRolZp .. | .mRolAbs .. | .mRolZpX .. | .mRolAbsX .. | .mLsrZp .. | .mLsrAbs ..
  | .mLsrZpX .. | .mLsrAbsX .. | .mRorZp .. | .mRorAbs .. | .mRorZpX .. | .mRorAbsX .. =>
    .next (modifyM_accesses .refl (List.mem_singleton_self _) _)
  | .mPhp .. | .mPha .. => .next (pushM_accesses .refl (List.mem_singleton_self _) _)
  | .mPlp .. | .mPla .. => .next ((pullM_accesses .refl).onM _)
  | .mBpl .. | .mBmi .. | .mBvc .. | .mBvs .. | .mBcc .. | .mBcs .. | .mBne .. | .mBeq .. => .next (branchM_accesses .refl _ _)
  | .mJmpInd .. => .next ((indirectTarget_accesses .refl _).onM _)
  | .mJsr .. => .next ((pushM16_accesses .refl (List.Subset.refl _) _).onM _)
  | .mRts .. => .next ((pullM16_accesses .refl).onM _)
  | .mBrk .. => .next (vectorM_accesses .refl (List.Subset.refl _) _ _ _)
  | .mRti .. => .next (returnM_accesses .refl)
  | .mIllegal .. => .next (illegalHook_accesses .refl _ _)

/-! ## The obligations -/

/-- Settles O12: the stores of an instruction are at the addresses of its table (`exec_accesses`). -/
theorem instructionsStoreOnlyWhereTheirRulesSay : Obligations.InstructionsStoreOnlyWhereTheirRulesSay :=
  fun i _ _ _ h ha => ((exec_accesses i).accesses h).ramByte ha

/-- Settles O15: eight calm replies cover the accesses of an instruction (`Accesses.calm`), on plain RAM none reaches the VDP
(`Accesses.plain`), and no access withdraws a request (`Accesses.keepsLatched`). -/
theorem instructionsReachTheVdpOnlyThroughItsPorts : Obligations.InstructionsReachTheVdpOnlyThroughItsPorts := by
  intro i s t h
  have ha := (exec_accesses i).accesses h
  refine ⟨fun hroutes hlen hcalls => ?_, fun hplain hports => ?_, ha.keepsLatched⟩
  · obtain ⟨hv, hic, -⟩ := ha.calm (k := 0) ⟨hlen, hcalls, hroutes⟩
    exact ⟨hv, hic⟩
  · obtain ⟨hv, hic, -⟩ := ha.plain hports hplain
    exact ⟨hv, hic⟩

end Sys2Proof.Machine
end

/-! The two directions of the encoding (R170 to R204). `Reads` says how a page of the decoder treats an opcode byte: what it answers
is the one instruction encoded by the bytes before, that byte and the operand bytes after it, and it looks at no byte more. Each page
is followed branch by branch; in a branch the fields are known, and put together they give the opcode byte (`opcode_fields`). -/
section
namespace Sys2Proof.Machine

/-! ## The value of an opcode byte -/

theorem toNat_append_eq {m n : Nat} (a : BitVec m) (b : BitVec n) : (a ++ b).toNat = a.toNat * 2 ^ n + b.toNat := by
  rw [BitVec.toNat_append, Nat.shiftLeft_eq, Nat.mul_comm, Nat.two_pow_add_eq_or_of_lt b.isLt]

/-- An opcode byte is its fields put together (R172). -/
theorem opcode_fields (op : Byte) :
    op.toNat = 64 * fieldX op + 8 * fieldY op + fieldZ op ∧ fieldY op = 2 * fieldP op + fieldQ op ∧
      fieldX op < 4 ∧ fieldY op < 8 ∧ fieldZ op < 8 ∧ fieldP op < 4 ∧ fieldQ op < 2 := by
  simp only [fieldX, fieldY, fieldZ, fieldP, fieldQ, BitVec.extractLsb'_toNat, Nat.shiftRight_eq_div_pow]
  omega

theorem toNat_extractY (op : Byte) : (op.extractLsb' 3 3).toNat = fieldY op := rfl
theorem toNat_extractZ (op : Byte) : (op.extractLsb' 0 3).toNat = fieldZ op := rfl

/-! The operand read from a code has that code (R173 to R176). -/

theorem ssOf_code : ∀ c < 4, (ssOf c).code.toNat = c := by decide
theorem qqOf_code : ∀ c < 4, (qqOf c).code.toNat = c := by decide
theorem ccOf_code : ∀ c < 8, (ccOf c).code.toNat = c := by decide
theorem cc4Of_code : ∀ c < 8, 4 ≤ c → (cc4Of (c - 4)).code.toNat = c - 4 := by decide
theorem rotOf_code : ∀ c < 8, (rotOf c).code.toNat = c := by decide
theorem xyOpOf_code (r : Reg8) : (xyOpOf r).code = r.code := by cases r <;> rfl

/-- A register code is code 6, memory, or the code of a register (R173). -/
theorem onReg_cases {c : Nat} (hc : c < 8) :
    (c = 6 ∧ ∀ {α : Type} (reg : Reg8 → α) (mem : α), onReg c reg mem = mem) ∨
      ∃ r : Reg8, r.code.toNat = c ∧ ∀ {α : Type} (reg : Reg8 → α) (mem : α), onReg c reg mem = reg r := by
  match c, hc with
  | 0, _ => exact .inr ⟨.b, rfl, fun _ _ => rfl⟩
  | 1, _ => exact .inr ⟨.c, rfl, fun _ _ => rfl⟩
  | 2, _ => exact .inr ⟨.d, rfl, fun _ _ => rfl⟩
  | 3, _ => exact .inr ⟨.e, rfl, fun _ _ => rfl⟩
  | 4, _ => exact .inr ⟨.h, rfl, fun _ _ => rfl⟩
  | 5, _ => exact .inr ⟨.l, rfl, fun _ _ => rfl⟩
  | 6, _ => exact .inl ⟨rfl, fun _ _ => rfl⟩
  | 7, _ => exact .inr ⟨.a, rfl, fun _ _ => rfl⟩

theorem Reg8.code_of_ne : ∀ {r : Reg8}, r ≠ .h → r ≠ .l → r.code.toNat ∉ [4, 5, 6]
  | .b, _, _ | .c, _, _ | .d, _, _ | .e, _, _ | .a, _, _ => by decide
  | .h, h, _ | .l, _, h => absurd rfl h

/-! ## What a decoder reads -/

/-- The bytes are the encoding of `i`, a well-formed instruction of the variant. -/
structure EncodedAs (cpu : Cpu) (i : Instr) (bytes : List Byte) : Prop where
  wf : i.wf = true
  cpu : i.cpu = cpu
  bytes : encode i = bytes

/-- An encoding is known by the value of its opcode byte. -/
theorem EncodedAs.of_opcode {cpu : Cpu} {i : Instr} {pre operands : List Byte} {op b : Byte} (hwf : i.wf = true)
    (hcpu : i.cpu = cpu) (he : encode i = pre ++ b :: operands) (hb : b.toNat = op.toNat) :
    EncodedAs cpu i (pre ++ op :: operands) := by
  obtain rfl := BitVec.eq_of_toNat_eq hb
  exact ⟨hwf, hcpu, he⟩

/-- The two answers a decoder gives after the bytes `pre` and the opcode byte `op`, the first with `rest` to follow and the second
with `more` after that: both take the same operand bytes from the start of `rest`, and the instruction is encoded by just the bytes
read. -/
inductive Reads (cpu : Cpu) (pre : List Byte) (op : Byte) (rest more : List Byte) :
    Except DecodeError Instr → Except DecodeError Instr → Prop
  | ok {i : Instr} (h : EncodedAs cpu i (pre ++ [op])) : Reads cpu pre op rest more (.ok i) (.ok i)
  | byte {k : Byte → Instr} (h : ∀ n, EncodedAs cpu (k n) (pre ++ [op, n])) :
    Reads cpu pre op rest more (need1 rest k) (need1 (rest ++ more) k)
  | word {k : Word → Instr} (h : ∀ nn, EncodedAs cpu (k nn) (pre ++ [op, lo8 nn, hi8 nn])) :
    Reads cpu pre op rest more (need16 rest k) (need16 (rest ++ more) k)
  | bytes {k : Byte → Byte → Instr} (h : ∀ n m, EncodedAs cpu (k n m) (pre ++ [op, n, m])) :
    Reads cpu pre op rest more (need2 rest k) (need2 (rest ++ more) k)

/-- If `r` is an instruction, so is `r'`, and the bytes begin with its encoding. -/
def Starts (cpu : Cpu) (bytes : List Byte) (r r' : Except DecodeError Instr) : Prop :=
  ∀ i, r = .ok i → r' = .ok i ∧ ∃ used rest, bytes = used ++ rest ∧ EncodedAs cpu i used

theorem starts_error {cpu : Cpu} {bytes : List Byte} {e : DecodeError} {r' : Except DecodeError Instr} :
    Starts cpu bytes (.error e) r' := fun _ h => nomatch h

theorem Reads.starts {cpu : Cpu} {pre : List Byte} {op : Byte} {rest more : List Byte} {r r' : Except DecodeError Instr}
    (h : Reads cpu pre op rest more r r') : Starts cpu (pre ++ op :: rest) r r' := by
  intro i hi
  cases h with
  | ok h =>
    cases hi
    exact ⟨rfl, _, rest, by simp, h⟩
  | byte h =>
    match rest, hi with
    | n :: rest, rfl => exact ⟨rfl, _, rest, by simp, h n⟩
  | word h =>
    match rest, hi with
    | lo :: hi :: rest, rfl => exact ⟨rfl, _, rest, by simp [hi8_mk16, lo8_mk16], h _⟩
  | bytes h =>
    match rest, hi with
    | n :: m :: rest, rfl => exact ⟨rfl, _, rest, by simp, h n m⟩

/-! ## The main page (R178)

A branch named `h_5` is the fifth of the page's outermost `match`. -/

theorem decodeMain0_reads {op : Byte} {rest more : List Byte} (hx : fieldX op = 0) :
    Reads .z80 [] op rest more (decodeMain0 op rest) (decodeMain0 op (rest ++ more)) := by
  obtain ⟨hop, hpq, -, hy, hz, hp, hq⟩ := opcode_fields op
  have hss := ssOf_code _ hp
  have hcc := cc4Of_code _ hy
  unfold decodeMain0
  split
  case' h_5 | h_6 | h_7 => obtain ⟨h6, h⟩ | ⟨r, hr, h⟩ := onReg_cases hy <;> rw [h]
  case' h_1 | h_2 | h_3 | h_4 | h_8 => split
  all_goals
    constructor
    intros
    refine .of_opcode rfl rfl rfl ?_
    simp only [toNat_append_eq, BitVec.toNat_ofNat, imp_false] at *
    omega

theorem decodeMain1_reads {op : Byte} {rest more : List Byte} (hx : fieldX op = 1) :
    Reads .z80 [] op rest more (.ok (decodeMain1 op)) (.ok (decodeMain1 op)) := by
  obtain ⟨hop, -, -, hy, hz, -, -⟩ := opcode_fields op
  unfold decodeMain1
  obtain ⟨h6, h⟩ | ⟨r, hr, h⟩ := onReg_cases hy <;>
    obtain ⟨h6', h'⟩ | ⟨r', hr', h'⟩ := onReg_cases hz <;> rw [h, h']
  all_goals
    refine .ok (.of_opcode rfl rfl rfl ?_)
    simp only [toNat_append_eq, BitVec.toNat_ofNat]
    omega

theorem decodeMain2_reads {op : Byte} {rest more : List Byte} (hx : fieldX op = 2) :
    Reads .z80 [] op rest more (.ok (decodeMain2 op)) (.ok (decodeMain2 op)) := by
  obtain ⟨hop, -, -, hy, hz, -, -⟩ := opcode_fields op
  unfold decodeMain2
  obtain ⟨h6, h⟩ | ⟨r, hr, h⟩ := onReg_cases hz <;> simp only [h] <;> split
  all_goals
    refine .ok (.of_opcode rfl rfl rfl ?_)
    simp only [toNat_append_eq, BitVec.toNat_ofNat, imp_false] at *
    omega

theorem decodeMain3_reads {op : Byte} {rest more : List Byte} (hx : fieldX op = 3) (hcb : op.toNat ≠ 0xCB)
    (hed : op.toNat ≠ 0xED) (hdd : op.toNat ≠ 0xDD) (hfd : op.toNat ≠ 0xFD) :
    Reads .z80 [] op rest more (decodeMain3 op rest) (decodeMain3 op (rest ++ more)) := by
  obtain ⟨hop, hpq, -, hy, hz, hp, hq⟩ := opcode_fields op
  have hqq := qqOf_code _ hp
  have hcc := ccOf_code _ hy
  unfold decodeMain3
  repeat' split
  all_goals
    constructor
    intros
    refine .of_opcode rfl rfl rfl ?_
    simp only [toNat_append_eq, BitVec.toNat_ofNat, toNat_extractY, imp_false] at *
    omega

theorem decodeMain_reads {op : Byte} {rest more : List Byte} (hcb : op.toNat ≠ 0xCB) (hed : op.toNat ≠ 0xED)
    (hdd : op.toNat ≠ 0xDD) (hfd : op.toNat ≠ 0xFD) :
    Reads .z80 [] op rest more (decodeMain op rest) (decodeMain op (rest ++ more)) := by
  unfold decodeMain
  split
  next hx => exact decodeMain0_reads hx
  next hx => exact decodeMain1_reads hx
  next hx => exact decodeMain2_reads hx
  next =>
    obtain ⟨-, -, hx, -⟩ := opcode_fields op
    exact decodeMain3_reads (by simp only [imp_false] at *; omega) hcb hed hdd hfd

/-! ## The pages `CB` and `ED` (R179, R181) -/

theorem decodeCb_reads {op : Byte} {rest more : List Byte} :
    Reads .z80 [0xCB] op rest more (.ok (decodeCb op)) (.ok (decodeCb op)) := by
  obtain ⟨hop, -, hx, hy, hz, -, -⟩ := opcode_fields op
  unfold decodeCb
  obtain ⟨h6, h⟩ | ⟨r, hr, h⟩ := onReg_cases hz <;> simp only [h] <;> repeat' split
  all_goals
    refine .ok (.of_opcode rfl rfl rfl ?_)
    simp only [toNat_append_eq, BitVec.toNat_ofNat, toNat_extractY, imp_false] at *
    omega

theorem reads_zIllegalEd {op : Byte} {rest more : List Byte} (h : edUndefined op = true) :
    Reads .z80 [0xED] op rest more (.ok (.zIllegalEd op)) (.ok (.zIllegalEd op)) :=
  .ok ⟨h, rfl, rfl⟩

/-! The bytes the page `ED` leaves over are the undefined ones (R510). -/

theorem edUndefined_x03 : ∀ op, fieldX op ≠ 1 → fieldX op ≠ 2 → edUndefined op = true := by decide +kernel

theorem edUndefined_x1 : ∀ op, fieldX op = 1 → fieldZ op = 7 → 6 ≤ fieldY op → edUndefined op = true := by
  decide +kernel

theorem edUndefined_x2 : ∀ op, fieldX op = 2 → decodeEd2 op = .zIllegalEd op → edUndefined op = true := by
  decide +kernel

theorem decodeEd1_reads {op : Byte} {rest more : List Byte} (hx : fieldX op = 1) :
    Reads .z80 [0xED] op rest more (decodeEd1 op rest) (decodeEd1 op (rest ++ more)) := by
  obtain ⟨hop, hpq, -, hy, hz, hp, hq⟩ := opcode_fields op
  have hss := ssOf_code _ hp
  unfold decodeEd1
  split
  case' h_1 | h_2 => obtain ⟨h6, h⟩ | ⟨r, hr, h⟩ := onReg_cases hy <;> rw [h]
  case' h_3 | h_4 | h_5 | h_6 | h_7 | h_8 => split
  any_goals refine reads_zIllegalEd (edUndefined_x1 op hx ?_ ?_) <;> simp only [imp_false] at * <;> omega
  all_goals
    constructor
    intros
    refine .of_opcode ?_ rfl rfl ?_
  all_goals
    simp only [Instr.wf, bne_iff_ne, Bool.and_eq_true, ne_eq, ← BitVec.toNat_inj, BitVec.ofNat_eq_ofNat, toNat_append_eq,
      BitVec.toNat_ofNat, toNat_extractY, imp_false] at *
  all_goals omega

theorem decodeEd2_reads {op : Byte} {rest more : List Byte} (hx : fieldX op = 2) :
    Reads .z80 [0xED] op rest more (.ok (decodeEd2 op)) (.ok (decodeEd2 op)) := by
  have hillegal := edUndefined_x2 op hx
  revert hillegal
  unfold decodeEd2
  split <;> intro hillegal
  any_goals exact reads_zIllegalEd (hillegal rfl)
  all_goals
    refine .ok (.of_opcode rfl rfl rfl ?_)
    symm
    assumption

theorem decodeEd_reads {op : Byte} {rest more : List Byte} :
    Reads .z80 [0xED] op rest more (decodeEd op rest) (decodeEd op (rest ++ more)) := by
  unfold decodeEd
  split
  next hx => exact decodeEd1_reads hx
  next hx => exact decodeEd2_reads hx
  next h1 h2 => exact reads_zIllegalEd (edUndefined_x03 op h1 h2)

/-! ## The pages `DD` and `FD` and their `CB` pages (R180, R182) -/

theorem decodeXyCb_encodedAs {xy : XYReg} {d op : Byte} :
    EncodedAs .z80 (decodeXyCb xy d op) ([xy.px, 0xCB, d] ++ [op]) := by
  obtain ⟨hop, -, hx, hy, hz, -, -⟩ := opcode_fields op
  have hrot := rotOf_code _ hy
  unfold decodeXyCb
  obtain ⟨h6, h⟩ | ⟨r, hr, h⟩ := onReg_cases hz <;> simp only [h] <;> repeat' split
  all_goals refine .of_opcode ?_ rfl rfl ?_
  all_goals
    simp only [Instr.wf, bne_iff_ne, ne_eq, ← BitVec.toNat_inj, BitVec.ofNat_eq_ofNat, toNat_append_eq,
      BitVec.toNat_ofNat, toNat_extractY, toNat_extractZ, imp_false] at *
  all_goals omega

theorem reads_zPrefix {xy : XYReg} {op : Byte} {rest more : List Byte} (h : (Instr.zPrefix xy op).wf = true) :
    Reads .z80 [xy.px] op rest more (.ok (.zPrefix xy op)) (.ok (.zPrefix xy op)) :=
  .ok ⟨h, rfl, rfl⟩

section IgnoredPrefix
variable {xy : XYReg}

/-! The bytes these pages leave over are those before which `DD` and `FD` are ignored (R502). -/

theorem zPrefix_wf_x0 : ∀ op, fieldX op = 0 → decodeXy0 xy op [0, 0] = .ok (.zPrefix xy op) →
    (Instr.zPrefix xy op).wf = true := by cases xy <;> decide +kernel

theorem zPrefix_wf_x1 : ∀ op, fieldX op = 1 → fieldY op ∉ [4, 5, 6] → fieldZ op ∉ [4, 5, 6] →
    (Instr.zPrefix xy op).wf = true := by cases xy <;> decide +kernel

theorem zPrefix_wf_x2 : ∀ op, fieldX op = 2 → fieldZ op ≠ 4 → fieldZ op ≠ 5 → fieldZ op ≠ 6 →
    (Instr.zPrefix xy op).wf = true := by cases xy <;> decide +kernel

theorem zPrefix_wf_x3 : ∀ op, fieldX op ≠ 0 → fieldX op ≠ 1 → fieldX op ≠ 2 →
    decodeXy xy op [0, 0] = .ok (.zPrefix xy op) → (Instr.zPrefix xy op).wf = true := by cases xy <;> decide +kernel

end IgnoredPrefix

theorem decodeXy0_reads {xy : XYReg} {op : Byte} {rest more : List Byte} (hx : fieldX op = 0) :
    Reads .z80 [xy.px] op rest more (decodeXy0 xy op rest) (decodeXy0 xy op (rest ++ more)) := by
  have hprefix := zPrefix_wf_x0 (xy := xy) op hx
  revert hprefix
  unfold decodeXy0
  split <;> intro hprefix
  any_goals exact reads_zPrefix (hprefix rfl)
  all_goals
    constructor
    intros
    refine .of_opcode rfl rfl rfl ?_
    symm
    assumption

theorem decodeXyLd_reads {xy : XYReg} {op : Byte} {rest more : List Byte} {r r' : Reg8} (hx : fieldX op = 1)
    (hy : r.code.toNat = fieldY op) (hz : r'.code.toNat = fieldZ op) :
    Reads .z80 [xy.px] op rest more (.ok (decodeXyLd xy op r r')) (.ok (decodeXyLd xy op r r')) := by
  obtain ⟨hop, -⟩ := opcode_fields op
  have hcodeH : Reg8.h.code.toNat = 4 := rfl
  have hcodeL : Reg8.l.code.toNat = 5 := rfl
  unfold decodeXyLd
  repeat' split
  any_goals exact reads_zPrefix (zPrefix_wf_x1 op hx (hy ▸ Reg8.code_of_ne ‹_› ‹_›) (hz ▸ Reg8.code_of_ne ‹_› ‹_›))
  all_goals
    refine .ok (.of_opcode (by simp_all [Instr.wf]) rfl rfl ?_)
    simp only [toNat_append_eq, xyOpOf_code, Half.code, BitVec.ofNat_eq_ofNat, BitVec.toNat_ofNat]
    omega

theorem decodeXy1_reads {xy : XYReg} {op : Byte} {rest more : List Byte} (hx : fieldX op = 1) :
    Reads .z80 [xy.px] op rest more (decodeXy1 xy op rest) (decodeXy1 xy op (rest ++ more)) := by
  obtain ⟨hop, -, -, hy, hz, -, -⟩ := opcode_fields op
  unfold decodeXy1
  obtain ⟨h6, h⟩ | ⟨r, hr, h⟩ := onReg_cases hy <;>
    obtain ⟨h6', h'⟩ | ⟨r', hr', h'⟩ := onReg_cases hz <;> simp only [h, h']
  case inl.inl =>
    obtain rfl : op = 0x76 := by bv_omega
    exact reads_zPrefix rfl
  case inr.inr => exact decodeXyLd_reads hx hr hr'
  all_goals
    refine .byte fun _ => .of_opcode rfl rfl rfl ?_
    simp only [toNat_append_eq, BitVec.toNat_ofNat]
    omega

theorem decodeXy2_reads {xy : XYReg} {op : Byte} {rest more : List Byte} (hx : fieldX op = 2) :
    Reads .z80 [xy.px] op rest more (decodeXy2 xy op rest) (decodeXy2 xy op (rest ++ more)) := by
  obtain ⟨hop, -, -, hy, hz, -, -⟩ := opcode_fields op
  unfold decodeXy2 decodeXy2.decodeXyAlu
  repeat' split
  any_goals exact reads_zPrefix (zPrefix_wf_x2 op hx ‹_› ‹_› ‹_›)
  all_goals
    constructor
    intros
    refine .of_opcode rfl rfl rfl ?_
    simp only [toNat_append_eq, Half.code, BitVec.ofNat_eq_ofNat, BitVec.toNat_ofNat, imp_false] at *
    omega

theorem decodeXy_reads {xy : XYReg} {op : Byte} {rest more : List Byte} :
    Reads .z80 [xy.px] op rest more (decodeXy xy op rest) (decodeXy xy op (rest ++ more)) := by
  have hprefix := zPrefix_wf_x3 (xy := xy) op
  revert hprefix
  unfold decodeXy
  split <;> intro hprefix
  next hx => exact decodeXy0_reads hx
  next hx => exact decodeXy1_reads hx
  next hx => exact decodeXy2_reads hx
  next h0 h1 h2 =>
    replace hprefix := hprefix h0 h1 h2
    revert hprefix
    split <;> intro hprefix
    any_goals exact reads_zPrefix (hprefix rfl)
    case h_1 h =>
      obtain rfl : op = 0xCB := BitVec.eq_of_toNat_eq h
      exact .bytes fun d op => decodeXyCb_encodedAs
    all_goals
      refine .ok (.of_opcode rfl rfl rfl ?_)
      symm
      assumption

/-! ## The decoders of the two variants (R183, R200) -/

theorem decodeZ80_starts {bytes more : List Byte} :
    Starts .z80 bytes (decodeZ80 bytes) (decodeZ80 (bytes ++ more)) := by
  cases bytes with
  | nil => exact starts_error
  | cons op rest =>
    unfold decodeZ80
    dsimp only [List.cons_append]
    split
    next h =>
      obtain rfl : op = 0xCB := BitVec.eq_of_toNat_eq h
      exact match rest with
        | [] => starts_error
        | _ :: _ => (decodeCb_reads (more := more)).starts
    next h =>
      obtain rfl : op = 0xED := BitVec.eq_of_toNat_eq h
      exact match rest with
        | [] => starts_error
        | _ :: _ => decodeEd_reads.starts
    next h =>
      obtain rfl : op = 0xDD := BitVec.eq_of_toNat_eq h
      exact match rest with
        | [] => starts_error
        | _ :: _ => (decodeXy_reads (xy := .ix)).starts
    next h =>
      obtain rfl : op = 0xFD := BitVec.eq_of_toNat_eq h
      exact match rest with
        | [] => starts_error
        | _ :: _ => (decodeXy_reads (xy := .iy)).starts
    next hcb hed hdd hfd => exact (decodeMain_reads hcb hed hdd hfd).starts

theorem reads_mIllegal {op : Byte} {rest more : List Byte} (h : illegal6502 op = true) :
    Reads .m6502 [] op rest more (.ok (.mIllegal op)) (.ok (.mIllegal op)) :=
  .ok ⟨h, rfl, rfl⟩

/-- The bytes the matrix leaves over are the illegal ones (R204). -/
theorem illegal6502_of_decode : ∀ op, decodeM6502 [op, 0, 0] = .ok (.mIllegal op) → illegal6502 op = true := by
  decide +kernel

theorem decodeM6502_reads {op : Byte} {rest more : List Byte} :
    Reads .m6502 [] op rest more (decodeM6502 (op :: rest)) (decodeM6502 (op :: rest ++ more)) := by
  have hillegal := illegal6502_of_decode op
  revert hillegal
  unfold decodeM6502 decodeM0 decodeM2 decodeM4 decodeM6 decodeM8 decodeMA decodeMC decodeME
  dsimp only [List.cons_append]
  split <;> split <;> intro hillegal
  any_goals exact reads_mIllegal (hillegal rfl)
  all_goals
    constructor
    intros
    refine .of_opcode rfl rfl rfl ?_
    symm
    assumption

theorem decode_starts {cpu : Cpu} {bytes more : List Byte} :
    Starts cpu bytes (decode cpu bytes) (decode cpu (bytes ++ more)) := by
  cases cpu with
  | z80 => exact decodeZ80_starts
  | m6502 =>
    cases bytes with
    | nil => exact starts_error
    | cons op rest => exact decodeM6502_reads.starts

/-! ## The obligations -/

/-- What is decoded does not depend on the bytes that follow (R183). -/
theorem decode_append {cpu : Cpu} {bytes : List Byte} {i : Instr} (h : decode cpu bytes = .ok i) (more : List Byte) :
    decode cpu (bytes ++ more) = .ok i :=
  (decode_starts i h).1

/-- The first instruction found in a list is what the whole list decodes to. -/
theorem decode_of_firstDecoded {cpu : Cpu} {read bytes : List Byte} {i : Instr} (h : firstDecoded cpu read bytes = some i) :
    decode cpu (read ++ bytes) = .ok i := by
  induction bytes generalizing read with
  | nil => cases h
  | cons b rest ih =>
    rw [List.append_cons]
    unfold firstDecoded at h
    split at h
    next hd =>
      cases h
      exact decode_append hd rest
    next => exact ih h

/-- Settles O1: an instruction is found in its encoding (`encode_found`), and what follows does not change that (`decode_append`). -/
theorem decodeReadsWhatEncodeWrites : Obligations.DecodeReadsWhatEncodeWrites := fun i rest hwf =>
  decode_append (decode_of_firstDecoded (encode_found i hwf)) rest

/-- Settles O2: each page answers only instructions encoded by the bytes it has read (`decode_starts`). -/
theorem decodeTakesOnlyItsOwnEncoding : Obligations.DecodeTakesOnlyItsOwnEncoding := by
  intro cpu bytes i h
  obtain ⟨-, used, rest, rfl, hwf, hcpu, rfl⟩ := decode_starts (more := []) i h
  exact ⟨hwf, hcpu, rest, rfl⟩

end Sys2Proof.Machine
end

/-! The loads of the Z80 (spec/40_z80_load.md): a register read after a write, the flags of a byte loaded, and what the register
moves, loads and stores do; and words of the spec's encodings. -/
section
namespace Sys2Proof.Machine

variable {s : State}

/-! ## Words of the spec -/

/-- What stands in the encoding of a well-formed instruction decodes to it. -/
theorem decode_of_encode_eq {cpu : Cpu} {word : List Byte} {i : Instr} (hwf : i.wf = true) (hcpu : i.cpu = cpu)
    (hword : encode i = word) : decode cpu word = .ok i := by
  rw [← hcpu, ← hword, ← List.append_nil (encode i)]
  exact decodeReadsWhatEncodeWrites i [] hwf

/-- Settles O3: each word is the encoding of its instruction, and decoding reads what encoding writes (O1). -/
theorem wordsOfTheSpecDecode : Obligations.WordsOfTheSpecDecode := by
  unfold Obligations.WordsOfTheSpecDecode
  and_intros <;> exact decode_of_encode_eq rfl rfl rfl

/-! ## A register read after a write (R173, R174, R34) -/

theorem get8_set8 (z : Z80) (r q : Reg8) (v : Byte) : (z.set8 r v).get8 q = if q = r then v else z.get8 q := by
  cases r <;> cases q <;> rfl

theorem bc_setBC (z : Z80) (v : Word) : (z.setBC v).bc = v := mk16_hi8_lo8 v
theorem de_setDE (z : Z80) (v : Word) : (z.setDE v).de = v := mk16_hi8_lo8 v
theorem hl_setHL (z : Z80) (v : Word) : (z.setHL v).hl = v := mk16_hi8_lo8 v

theorem getSS_setSS (z : Z80) (dd q : RegSS) (v : Word) : (z.setSS dd v).getSS q = if q = dd then v else z.getSS q := by
  cases dd with
  | bc => cases q with
    | bc => exact bc_setBC z v
    | de | hl | sp => rfl
  | de => cases q with
    | de => exact de_setDE z v
    | bc | hl | sp => rfl
  | hl => cases q with
    | hl => exact hl_setHL z v
    | bc | de | sp => rfl
  | sp => cases q <;> rfl

theorem getXY_setXY (z : Z80) (xy : XYReg) (v : Word) : (z.setXY xy v).getXY xy = v := by cases xy <;> rfl

theorem getHalf_setHalf (z : Z80) (xy : XYReg) (l k : Half) (v : Byte) :
    (z.setHalf xy l v).getHalf xy k = if k = l then v else z.getHalf xy k := by
  cases l <;> cases k <;> simp [Z80.setHalf, Z80.getHalf, getXY_setXY, hi8_mk16, lo8_mk16]

/-! ## The flags of a byte, bit by bit (R37, R290) -/

theorem flagsAre_mkF (b7 b6 b5 b4 b3 b2 b1 b0 : Bool) :
    FlagsAre (mkF b7 b6 b5 b4 b3 b2 b1 b0) (b7 = true) (b6 = true) (b5 = true) (b4 = true) (b3 = true) (b2 = true) (b1 = true)
      (b0 = true) := by
  simp [FlagsAre, flagS, flagZ, flag5, flagH, flag3, flagPV, flagN, flagC]

theorem flagsAre_sz53 (v : Byte) (h pv n c : Bool) :
    FlagsAre (sz53 v h pv n c) (128 ≤ v.toNat) (v = 0) (v.getLsbD 5) (h = true) (v.getLsbD 3) (pv = true) (n = true)
      (c = true) := by
  have hsign : v.msb = true ↔ 128 ≤ v.toNat := BitVec.msb_eq_true_iff_two_mul_ge.trans (by omega)
  have hzero : (v == 0) = true ↔ v = 0 := beq_iff_eq
  rw [← hsign, ← hzero]
  exact flagsAre_mkF ..

/-- The flags of `LD A,I` and `LD A,R`: `PV` is `IFF2`, the carry stays (R245, R246). -/
theorem flagsAre_loadSpecialFlags (v f : Byte) (iff2 : Bool) :
    FlagsAre (loadSpecialFlags v f iff2) (128 ≤ v.toNat) (v = 0) (v.getLsbD 5) False (v.getLsbD 3) (iff2 = true) False
      (flagC f = true) := by
  simpa [loadSpecialFlags] using flagsAre_sz53 v false iff2 false (flagC f)

/-! ## The register moves -/

/-- With the undocumented encodings on, one of them has its meaning (R500). -/
theorem undocumented_of_z80Undoc (h : s.cfg.z80Undoc = true) (i : Instr) (meaning : State → Result) :
    undocumented i meaning s = meaning s := if_pos h

/-- Settles O16: the laws of a read after a write, `flagsAre_loadSpecialFlags` for `LD A,I` and `LD A,R`,
`undocumented_of_z80Undoc` for the index halves; the other moves are their meanings. -/
theorem registerMovesGiveTheNamedRegisters : Obligations.RegisterMovesGiveTheNamedRegisters := by
  refine ⟨fun z r v => ?reg8, fun z dd v => ?regSS, fun z xy l v => ?half, fun s => ?moves⟩
  case reg8 => exact ⟨by rw [get8_set8, if_pos rfl], fun q hq => by rw [get8_set8, if_neg hq]⟩
  case regSS => exact ⟨by rw [getSS_setSS, if_pos rfl], fun q hq => by rw [getSS_setSS, if_neg hq]⟩
  case half => exact ⟨by rw [getHalf_setHalf, if_pos rfl], fun k hk => by rw [getHalf_setHalf, if_neg hk]⟩
  case moves =>
    exact ⟨fun _ _ => rfl, fun _ _ => rfl, fun _ _ => rfl, fun _ _ => rfl, rfl, fun _ => rfl, rfl, rfl, rfl, rfl, rfl,
      ⟨_, rfl, flagsAre_loadSpecialFlags s.z.i s.z.f s.z.iff2⟩,
      ⟨_, rfl, flagsAre_loadSpecialFlags s.z.r s.z.f s.z.iff2⟩,
      fun hu xy l => ⟨fun _ => undocumented_of_z80Undoc hu _ _, fun _ => undocumented_of_z80Undoc hu _ _,
        fun _ => undocumented_of_z80Undoc hu _ _⟩⟩

/-! ## Loads and stores -/

/-- A word read is two bytes read, the low one first (R135). -/
theorem loadZ16_eq (a : Word) (f : Word → Z80 → Z80) (s : State) :
    loadZ16 a f s =
      let lo := memRead a s
      let hi := memRead (a + 1) lo.2
      .next (hi.2.onZ (f (mk16 hi.1 lo.1))) := rfl

/-- A word written as its two bytes, the low one first (R135). -/
theorem memWrite16_mk16 (a : Word) (hi lo : Byte) (s : State) :
    memWrite16 a (mk16 hi lo) s = memWrite (a + 1) hi (memWrite a lo s) := by
  rw [memWrite16, hi8_mk16, lo8_mk16]

theorem exec_zLdHlMemNn (nn : Word) : exec (.zLdHlMemNn nn) s = loadZ16 nn Z80.setHL s := rfl
theorem exec_zLdDdMemNn (dd : RegSS) (nn : Word) : exec (.zLdDdMemNn dd nn) s = loadZ16 nn (Z80.setSS dd) s := rfl
theorem exec_zLdXyMemNn (xy : XYReg) (nn : Word) : exec (.zLdXyMemNn xy nn) s = loadZ16 nn (Z80.setXY xy) s := rfl

theorem exec_zLdMemNnHl (nn : Word) : exec (.zLdMemNnHl nn) s = .next (memWrite16 nn (mk16 s.z.h s.z.l) s) := rfl

/-- Settles O17: a load of a byte and a store are one access; a word goes low byte first (`loadZ16_eq`, `memWrite16`), `HL` as its
two registers (`setHL_mk16`, `memWrite16_mk16`). -/
theorem loadsAndStoresGoThroughTheHook : Obligations.LoadsAndStoresGoThroughTheHook := by
  refine ⟨fun s => ?loads, fun s => ?stores⟩
  case loads =>
    refine ⟨fun _ => rfl, fun _ _ _ => rfl, rfl, rfl, fun _ => rfl, fun nn => ⟨?_, fun dd => ?_, fun xy => ?_⟩⟩
    · simp only [exec_zLdHlMemNn, loadZ16_eq, setHL_mk16]
    · rw [exec_zLdDdMemNn, loadZ16_eq]
    · rw [exec_zLdXyMemNn, loadZ16_eq]
  case stores =>
    refine ⟨rfl, rfl, fun _ => rfl, fun _ => rfl, fun _ => rfl, fun _ _ _ => rfl, fun _ _ _ => rfl, fun nn => ?_,
      fun _ _ => rfl, fun _ _ => rfl⟩
    rw [exec_zLdMemNnHl, memWrite16_mk16]

end Sys2Proof.Machine
end

/-! The arithmetic and logic of the Z80 (spec/41_z80_alu.md): each flag as a fact about the true sum or difference, one lemma for
the accumulator operations on every operand form, one for a change in place, and what each instruction then gives. -/
section
namespace Sys2Proof.Machine

variable {s : State}

/-! ## Numbers behind the flags (R290) -/

theorem loNib_eq (v : Byte) : loNib v = v.toNat % 16 := by simp [loNib]

theorem lo12_eq (v : Word) : lo12 v = v.toNat % 4096 := by simp [lo12]

theorem length_filter_getLsbD (v : Byte) : ((List.range 8).filter fun k => v.getLsbD k).length = popCount v := by
  simp only [← List.countP_eq_length_filter, List.range_succ, List.range_zero, List.countP_append, List.countP_singleton,
    List.nil_append, popCount, Bool.toNat, Bool.cond_eq_ite]

theorem parity_iff (v : Byte) : parity v = true ↔ EvenOnes v := by
  rw [EvenOnes, length_filter_getLsbD, parity, beq_iff_eq]

theorem toInt_bounds {n : Nat} (a : BitVec (n + 1)) : -2 ^ n ≤ a.toInt ∧ a.toInt < 2 ^ n :=
  ⟨a.le_toInt, a.toInt_lt⟩

theorem msb_iff_toInt_neg {w : Nat} (a : BitVec w) : a.msb = true ↔ a.toInt < 0 := by
  rw [BitVec.msb_eq_toInt, decide_eq_true_iff]

theorem msb_xor_iff {w : Nat} (a b : BitVec w) : (a ^^^ b).msb = true ↔ ¬ (a.msb = true ↔ b.msb = true) := by
  rw [BitVec.msb_xor, bne_iff_ne, ne_eq, Bool.eq_iff_iff]

/-- The sign of a number wrapped into `n + 1` bits, when it is at most one turn away. -/
theorem msb_ofInt_iff {n : Nat} {x : Int} (hlo : -(2 * 2 ^ n) ≤ x) (hhi : x < 2 * 2 ^ n) :
    (BitVec.ofInt (n + 1) x).msb = true ↔ (-2 ^ n ≤ x ∧ x < 0) ∨ 2 ^ n ≤ x := by
  have hpow : (((2 ^ (n + 1) : Nat) : Int)) = 2 * 2 ^ n := by push_cast; ring
  rw [BitVec.msb_eq_toInt, decide_eq_true_iff, BitVec.toInt_ofInt, Int.bmod_neg_iff] <;> omega

/-- The unsigned and the signed sum wrap to the same bits. -/
theorem ofInt_toInt_add {w : Nat} (a b : BitVec w) (c : Nat) :
    BitVec.ofInt w (a.toInt + b.toInt + c) = BitVec.ofNat w (a.toNat + b.toNat + c) := by
  simp [BitVec.ofInt_add, BitVec.ofNat_add]

/-- The unsigned and the signed difference wrap to the same bits. -/
theorem ofInt_toInt_sub {w : Nat} (a b : BitVec w) (c : Nat) :
    BitVec.ofInt w (a.toInt - b.toInt - c) = BitVec.ofInt w (a.toNat - b.toNat - c) := by
  simp [BitVec.ofInt_add, BitVec.ofInt_neg, Int.sub_eq_add_neg]

/-- The rule's overflow bit of a sum: both operands differ from the result in sign exactly when the signed sum does not fit. -/
theorem addOverflow_iff {n : Nat} (a b : BitVec (n + 1)) (c : Bool) :
    let r := BitVec.ofNat (n + 1) (a.toNat + b.toNat + c.toNat)
    let x := a.toInt + b.toInt + c.toNat
    ((a ^^^ r) &&& (b ^^^ r)).msb = true ↔ x < -2 ^ n ∨ 2 ^ n ≤ x := by
  obtain ⟨ha, ha'⟩ := toInt_bounds a
  obtain ⟨hb, hb'⟩ := toInt_bounds b
  have hc := c.toNat_le
  simp only [← ofInt_toInt_add, BitVec.msb_and, Bool.and_eq_true, msb_xor_iff, msb_iff_toInt_neg a, msb_iff_toInt_neg b]
  rw [msb_ofInt_iff (by omega) (by omega)]
  omega

/-- The rule's overflow bit of a difference: the operands differ in sign and the result from the first, exactly when the signed
difference does not fit. -/
theorem subOverflow_iff {n : Nat} (a b : BitVec (n + 1)) (c : Bool) :
    let r := BitVec.ofInt (n + 1) (a.toNat - b.toNat - c.toNat)
    let x := a.toInt - b.toInt - c.toNat
    ((a ^^^ b) &&& (a ^^^ r)).msb = true ↔ x < -2 ^ n ∨ 2 ^ n ≤ x := by
  obtain ⟨ha, ha'⟩ := toInt_bounds a
  obtain ⟨hb, hb'⟩ := toInt_bounds b
  have hc := c.toNat_le
  simp only [← ofInt_toInt_sub, BitVec.msb_and, Bool.and_eq_true, msb_xor_iff, msb_iff_toInt_neg a, msb_iff_toInt_neg b]
  rw [msb_ofInt_iff (by omega) (by omega)]
  omega

theorem overflows8_iff {x : Int} : x < -2 ^ 7 ∨ 2 ^ 7 ≤ x ↔ Overflows8 x := by unfold Overflows8; omega

theorem overflows16_iff {x : Int} : x < -2 ^ 15 ∨ 2 ^ 15 ≤ x ↔ Overflows16 x := by unfold Overflows16; omega

theorem msb_word_iff (v : Word) : v.msb = true ↔ 32768 ≤ v.toNat := BitVec.msb_eq_true_iff_two_mul_ge.trans (by omega)

theorem msb_byte_iff (v : Byte) : v.msb = true ↔ 128 ≤ v.toNat := BitVec.msb_eq_true_iff_two_mul_ge.trans (by omega)

/-! ## The flag byte of each operation -/

/-- A flag byte described by other words for its eight bits. -/
theorem FlagsAre.congr {f : Byte} {bs bz b5 bh b3 bp bn bc bs' bz' b5' bh' b3' bp' bn' bc' : Prop}
    (hf : FlagsAre f bs bz b5 bh b3 bp bn bc) (hs : bs ↔ bs') (hz : bz ↔ bz') (h5 : b5 ↔ b5') (hh : bh ↔ bh') (h3 : b3 ↔ b3')
    (hp : bp ↔ bp') (hn : bn ↔ bn') (hc : bc ↔ bc') : FlagsAre f bs' bz' b5' bh' b3' bp' bn' bc' := by
  obtain ⟨fs, fz, f5, fh, f3, fp, fn, fc⟩ := hf
  exact ⟨fs.trans hs, fz.trans hz, f5.trans h5, fh.trans hh, f3.trans h3, fp.trans hp, fn.trans hn, fc.trans hc⟩

theorem flagsAre_add8 (a b : Byte) (c : Bool) :
    let t := a.toNat + b.toNat + c.toNat
    let r := BitVec.ofNat 8 t
    FlagsAre (add8 a b c).2 (128 ≤ r.toNat) (t % 256 = 0) (r.getLsbD 5) (15 < a.toNat % 16 + b.toNat % 16 + c.toNat)
      (r.getLsbD 3) (Overflows8 (a.toInt + b.toInt + c.toNat)) False (255 < t) :=
  (flagsAre_sz53 ..).congr .rfl (by simp [← BitVec.toNat_inj]) .rfl (by simp [loNib_eq]) .rfl
    ((addOverflow_iff a b c).trans overflows8_iff) (by simp) (by simp)

theorem flagsAre_sub8 (a b : Byte) (c : Bool) :
    let t : Int := a.toNat - b.toNat - c.toNat
    let r := BitVec.ofInt 8 t
    FlagsAre (sub8 a b c).2 (128 ≤ r.toNat) (r = 0) (r.getLsbD 5) ((a.toNat % 16 : Int) - b.toNat % 16 - c.toNat < 0)
      (r.getLsbD 3) (Overflows8 (a.toInt - b.toInt - c.toNat)) True (t < 0) :=
  (flagsAre_sz53 ..).congr .rfl .rfl .rfl (by simp [subHalf, loNib_eq]) .rfl ((subOverflow_iff a b c).trans overflows8_iff)
    (by simp) (by simp [subBorrow])

theorem sub8Res_false (a b : Byte) : sub8Res a b false = a - b := by
  simp [sub8Res, BitVec.ofInt_add, BitVec.ofInt_neg, Int.sub_eq_add_neg, BitVec.sub_eq_add_neg]

/-- `CP` has the flags of `SUB`, but for the two bits of the operand (R303). -/
theorem flagsAre_cpFlags (a v : Byte) :
    FlagsAre (cpFlags a v) (128 ≤ (a - v).toNat) (a = v) (v.getLsbD 5) (a.toNat % 16 < v.toNat % 16) (v.getLsbD 3)
      (Overflows8 (a.toInt - v.toInt)) True (a.toNat < v.toNat) := by
  have hover := (subOverflow_iff a v false).trans overflows8_iff
  rw [cpFlags, sub8Res_false]
  refine (flagsAre_mkF ..).congr (msb_byte_iff _) (beq_iff_eq.trans sub_eq_zero) .rfl ?half .rfl ?overflow (by simp) ?borrow
  case half =>
    simp only [subHalf, loNib_eq, decide_eq_true_iff, Bool.toNat_false]
    omega
  case overflow => simpa [← sub8Res_false, sub8Res] using hover
  case borrow => simp [subBorrow]

theorem flagsAre_sz53p (v : Byte) (h n c : Bool) :
    FlagsAre (sz53p v h n c) (128 ≤ v.toNat) (v = 0) (v.getLsbD 5) (h = true) (v.getLsbD 3) (EvenOnes v) (n = true) (c = true) :=
  (flagsAre_sz53 ..).congr .rfl .rfl .rfl .rfl .rfl (parity_iff v) .rfl .rfl

/-- The flags of the logic operations: only `H` is not the same for all three (R293). -/
theorem flagsAre_logic {v : Byte} {h : Bool} {bh : Prop} (hh : h = true ↔ bh) :
    FlagsAre (sz53p v h false false) (128 ≤ v.toNat) (v = 0) (v.getLsbD 5) bh (v.getLsbD 3) (EvenOnes v) False False :=
  (flagsAre_sz53p ..).congr .rfl .rfl .rfl hh .rfl .rfl (by simp) (by simp)

theorem flagsAre_inc8 (v f : Byte) :
    FlagsAre (inc8 v f).2 (128 ≤ (v + 1).toNat) (v + 1 = 0) ((v + 1).getLsbD 5) (v.toNat % 16 = 15) ((v + 1).getLsbD 3)
      (v = 0x7F) False (flagC f = true) :=
  (flagsAre_sz53 ..).congr .rfl .rfl .rfl (by simp [loNib_eq]) .rfl beq_iff_eq (by simp) .rfl

theorem flagsAre_dec8 (v f : Byte) :
    FlagsAre (dec8 v f).2 (128 ≤ (v - 1).toNat) (v - 1 = 0) ((v - 1).getLsbD 5) (v.toNat % 16 = 0) ((v - 1).getLsbD 3)
      (v = 0x80) True (flagC f = true) :=
  (flagsAre_sz53 ..).congr .rfl .rfl .rfl (by simp [loNib_eq]) .rfl beq_iff_eq (by simp) .rfl

theorem flagsAre_add16 (x y : Word) (f : Byte) :
    FlagsAre (add16 x y f).2 (flagS f) (flagZ f) ((x + y).getLsbD 13) (4095 < x.toNat % 4096 + y.toNat % 4096)
      ((x + y).getLsbD 11) (flagPV f) False (65535 < x.toNat + y.toNat) :=
  (flagsAre_mkF ..).congr .rfl .rfl .rfl (by simp [lo12_eq]) .rfl .rfl (by simp) (by simp)

theorem flagsAre_adc16 (x y : Word) (f : Byte) :
    let c := (flagC f).toNat
    let t := x.toNat + y.toNat + c
    let r := BitVec.ofNat 16 t
    FlagsAre (adc16 x y f).2 (32768 ≤ r.toNat) (r = 0) (r.getLsbD 13) (4095 < x.toNat % 4096 + y.toNat % 4096 + c)
      (r.getLsbD 11) (Overflows16 (x.toInt + y.toInt + c)) False (65535 < t) :=
  (flagsAre_mkF ..).congr (msb_word_iff _) beq_iff_eq .rfl (by simp [lo12_eq]) .rfl
    ((addOverflow_iff x y _).trans overflows16_iff) (by simp) (by simp)

theorem flagsAre_sbc16 (x y : Word) (f : Byte) :
    let c := (flagC f).toNat
    let t : Int := x.toNat - y.toNat - c
    let r := BitVec.ofInt 16 t
    FlagsAre (sbc16 x y f).2 (32768 ≤ r.toNat) (r = 0) (r.getLsbD 13) ((x.toNat % 4096 : Int) - y.toNat % 4096 - c < 0)
      (r.getLsbD 11) (Overflows16 (x.toInt - y.toInt - c)) True (t < 0) :=
  (flagsAre_mkF ..).congr (msb_word_iff _) beq_iff_eq .rfl (by simp [lo12_eq]) .rfl
    ((subOverflow_iff x y _).trans overflows16_iff) (by simp) (by simp)

/-! ## Accumulator operations on an operand form (R295) -/

/-- The instruction of an accumulator operation on an operand form. -/
def aluInstr : AluOp → Source8 → Instr
  | .add => addInstr false
  | .adc => addInstr true
  | .sub => subInstr false
  | .sbc => subInstr true
  | .and => andInstr
  | .xor => xorInstr
  | .or => orInstr
  | .cp => cpInstr

@[simp] theorem Source8.read_z (o : Source8) : (o.read s).2.z = s.z := by
  cases o with
  | memHl | memXy => exact memRead_z _ _
  | reg | imm | half => rfl

/-- An accumulator operation on what `get` reads from the registers. -/
theorem regsZ_alu (op : AluOp) (get : Z80 → Byte) :
    regsZ (fun z => z.alu op (get z)) s = .next (s.onZ (Z80.alu op (get s.z))) := congrArg Host.Outcome.next (State.onZ_congr rfl)

/-- Every accumulator operation reads its operand and gives `A` and `F` what `AluOp.apply` gives. -/
theorem exec_aluInstr (op : AluOp) {o : Source8} (h : o.available s.cfg) :
    exec (aluInstr op o) s = .next ((o.read s).2.onZ fun z =>
      { z with a := (op.apply s.z.a s.z.f (o.read s).1).1, f := (op.apply s.z.a s.z.f (o.read s).1).2 }) := by
  have hexec : exec (aluInstr op o) s = .next ((o.read s).2.onZ (Z80.alu op (o.read s).1)) := by
    cases o with
    | reg r => exact Eq.trans (by cases op <;> rfl) (regsZ_alu op (Z80.get8 · r))
    | memHl | imm | memXy => cases op <;> rfl
    | half xy l => exact Eq.trans (by cases op <;> exact undocumented_of_z80Undoc h _ _) (regsZ_alu op (Z80.getHalf · xy l))
  rw [hexec]
  refine congrArg Host.Outcome.next (State.onZ_congr ?_)
  rw [Z80.alu, Source8.read_z]

theorem exec_addInstr (withCarry : Bool) {o : Source8} (h : o.available s.cfg) :
    let r := add8 s.z.a (o.read s).1 (withCarry && flagC s.z.f)
    exec (addInstr withCarry o) s = .next ((o.read s).2.onZ fun z => { z with a := r.1, f := r.2 }) := by
  cases withCarry with
  | false => exact exec_aluInstr .add h
  | true => exact exec_aluInstr .adc h

theorem exec_subInstr (withCarry : Bool) {o : Source8} (h : o.available s.cfg) :
    let r := sub8 s.z.a (o.read s).1 (withCarry && flagC s.z.f)
    exec (subInstr withCarry o) s = .next ((o.read s).2.onZ fun z => { z with a := r.1, f := r.2 }) := by
  cases withCarry with
  | false => exact exec_aluInstr .sub h
  | true => exact exec_aluInstr .sbc h

theorem exec_cpInstr {o : Source8} (h : o.available s.cfg) :
    exec (cpInstr o) s = .next ((o.read s).2.onZ fun z => { z with f := cpFlags s.z.a (o.read s).1 }) := by
  refine (exec_aluInstr .cp h).trans (congrArg Host.Outcome.next (State.onZ_congr ?_))
  rw [Source8.read_z]
  rfl

/-- The carry an operation takes in, as a number. -/
theorem toNat_carryIn (withCarry c : Bool) : (withCarry && c).toNat = if withCarry = true ∧ c = true then 1 else 0 := by
  simp only [Bool.toNat, Bool.cond_eq_ite, Bool.and_eq_true]

/-- Settles O20: `exec_addInstr` for every operand form, `flagsAre_add8` for the flags. -/
theorem addGivesTheSumAndItsFlags : Obligations.AddGivesTheSumAndItsFlags := by
  intro withCarry o s h
  simp only [← toNat_carryIn]
  exact ⟨_, exec_addInstr withCarry h, flagsAre_add8 ..⟩

/-- Settles O21: `exec_subInstr` and `exec_cpInstr` for every operand form, `flagsAre_sub8` and `flagsAre_cpFlags` for the flags. -/
theorem subtractAndCompareGiveTheDifferenceAndItsFlags : Obligations.SubtractAndCompareGiveTheDifferenceAndItsFlags := by
  intro o s h
  refine ⟨fun withCarry => ?_, _, exec_cpInstr h, flagsAre_cpFlags ..⟩
  have hcarry : ((withCarry && flagC s.z.f).toNat : Int) = if withCarry = true ∧ flagC s.z.f = true then 1 else 0 := by
    rw [toNat_carryIn, Nat.cast_ite, Nat.cast_one, Nat.cast_zero]
  simp only [← hcarry]
  exact ⟨_, exec_subInstr withCarry h, flagsAre_sub8 ..⟩

/-- Settles O22: `exec_aluInstr` for the three operations, `flagsAre_sz53p` for the flags. -/
theorem logicGivesTheBitsAndTheirParity : Obligations.LogicGivesTheBitsAndTheirParity := by
  intro o s h
  exact ⟨⟨_, exec_aluInstr .and h, flagsAre_logic (by simp)⟩, ⟨_, exec_aluInstr .xor h, flagsAre_logic (by simp)⟩,
    ⟨_, exec_aluInstr .or h, flagsAre_logic (by simp)⟩⟩

/-! ## A change in place (R294, R304 to R309, R503) -/

/-- A place read, changed by `op` and written back, `F` taking what `op` gives. -/
def Place8.modify (p : Place8) (op : Byte → Byte → Byte × Byte) (s : State) : State :=
  (p.write (op (p.read s).1 s.z.f).1 (p.read s).2).onZ fun z => { z with f := (op (p.read s).1 s.z.f).2 }

theorem regsZ_update8 (r : Reg8) (op : Byte → Byte → Byte × Byte) :
    regsZ (Z80.update8 r op) s = .next ((Place8.reg r).modify op s) := rfl

theorem regsZ_updateHalf (xy : XYReg) (l : Half) (op : Byte → Byte → Byte × Byte) :
    regsZ (Z80.updateHalf xy l op) s = .next ((Place8.half xy l).modify op s) := rfl

theorem modifyZ_hl (op : Byte → Byte → Byte × Byte) : modifyZ s.z.hl op s = Place8.memHl.modify op s := by
  simp only [modifyZ, Place8.modify, Place8.read, Place8.write, memRead_z]

theorem modifyZ_ea (xy : XYReg) (d : Byte) (op : Byte → Byte → Byte × Byte) :
    modifyZ (s.z.ea xy d) op s = (Place8.memXy xy d).modify op s := by
  simp only [modifyZ, Place8.modify, Place8.read, Place8.write, memRead_z, Z80.ea, sext8]

/-- `INC` of a place, or `DEC` where `down` holds. -/
def stepInstr : Bool → Place8 → Option Instr
  | false => incInstr
  | true => decInstr

/-- What `INC` does to the byte, or `DEC` where `down` holds. -/
def step8 : Bool → Byte → Byte → Byte × Byte
  | false => inc8
  | true => dec8

/-- `INC` and `DEC` change their place by `inc8` and `dec8`, in each form of a place that has them. -/
theorem exec_stepInstr (down : Bool) {p : Place8} {i : Instr} (h : s.cfg.z80Undoc = true ∨ ∀ xy l, p ≠ .half xy l)
    (hi : stepInstr down p = some i) : exec i s = .next (p.modify (step8 down) s) := by
  cases p with
  | reg r => cases down <;> cases hi <;> exact regsZ_update8 r _
  | memHl => cases down <;> cases hi <;> exact congrArg Host.Outcome.next (modifyZ_hl _)
  | memXy xy d => cases down <;> cases hi <;> exact congrArg Host.Outcome.next (modifyZ_ea xy d _)
  | half xy l =>
    have hu : s.cfg.z80Undoc = true := h.resolve_right fun hne => hne xy l rfl
    cases down <;> cases hi <;> exact (undocumented_of_z80Undoc hu _ _).trans (regsZ_updateHalf xy l _)
  | copy => cases down <;> cases hi

/-- Settles O23: `exec_stepInstr` for every place, `flagsAre_inc8` and `flagsAre_dec8` for the flags. -/
theorem incrementAndDecrementWorkInPlace : Obligations.IncrementAndDecrementWorkInPlace := fun _ _ h =>
  ⟨fun _ hi => ⟨_, exec_stepInstr false h hi, flagsAre_inc8 ..⟩, fun _ hi => ⟨_, exec_stepInstr true h hi, flagsAre_dec8 ..⟩⟩

/-! ## 16-bit arithmetic (R315 to R322) -/

/-- Settles O24: the meanings are `add16`, `adc16` and `sbc16` on the pair, whose flags `flagsAre_add16`, `flagsAre_adc16` and
`flagsAre_sbc16` give. -/
theorem wideArithmeticGivesSumsAndFlags : Obligations.WideArithmeticGivesSumsAndFlags := by
  refine ⟨fun s ss => ?_, fun s xy => ⟨fun _ => ⟨_, rfl, flagsAre_add16 ..⟩, rfl, rfl⟩⟩
  have hnat : (if flagC s.z.f = true then 1 else 0) = (flagC s.z.f).toNat := by rw [Bool.toNat, Bool.cond_eq_ite]
  simp only [hnat]
  exact ⟨⟨_, rfl, flagsAre_add16 ..⟩, ⟨_, rfl, flagsAre_adc16 ..⟩, ⟨_, rfl, flagsAre_sbc16 ..⟩, rfl, rfl⟩

/-! ## `DAA` (R310) -/

theorem daaCorr_eq (a f : Byte) :
    daaCorr a f = BitVec.ofNat 8
      ((if flagH f = true ∨ 9 < a.toNat % 16 then 0x06 else 0) + (if flagC f = true ∨ 0x99 < a.toNat then 0x60 else 0)) := by
  rw [daaCorr, loNib_eq]
  split_ifs <;> rfl

theorem daa_fst (a f : Byte) :
    let corr := BitVec.ofNat 8
      ((if flagH f = true ∨ 9 < a.toNat % 16 then 0x06 else 0) + (if flagC f = true ∨ 0x99 < a.toNat then 0x60 else 0))
    (daa a f).1 = if flagN f = true then a - corr else a + corr := by
  simp only [daa, daaCorr_eq]

theorem flagsAre_daa (a f : Byte) :
    let r := (daa a f).1
    FlagsAre (daa a f).2 (128 ≤ r.toNat) (r = 0) (r.getLsbD 5)
      ((flagN f = false ∧ 9 < a.toNat % 16) ∨ (flagN f = true ∧ flagH f = true ∧ a.toNat % 16 < 6))
      (r.getLsbD 3) (EvenOnes r) (flagN f = true) (flagC f = true ∨ 0x99 < a.toNat) :=
  (flagsAre_sz53p ..).congr .rfl .rfl .rfl (by cases flagN f <;> simp [loNib_eq]) .rfl .rfl .rfl (by simp)

theorem exec_zDaa : exec .zDaa s = .next { s with z := { s.z with a := (daa s.z.a s.z.f).1, f := (daa s.z.a s.z.f).2 } } := rfl

/-- Two decimal digits in a byte. -/
def packed (n : Nat) : Byte := BitVec.ofNat 8 (16 * (n / 10) + n % 10)

theorem toNat_packed {n : Nat} (h : n < 100) : (packed n).toNat = 16 * (n / 10) + n % 10 := by
  rw [packed, BitVec.toNat_ofNat]
  omega

theorem toNat_packed_mod {n : Nat} (h : n < 100) : (packed n).toNat % 16 = n % 10 := by
  rw [toNat_packed h]
  omega

/-- `DAA` on the sum of two packed operands: its low correction stands for the carry between the digits, its high one for the carry
out of them. -/
theorem daa_of_packed_sum {a f : Byte} {x y : Nat} (hx : x < 100) (hy : y < 100)
    (ha : a.toNat = ((packed x).toNat + (packed y).toNat) % 256) (hN : flagN f = false)
    (hH : flagH f = true ↔ 15 < (packed x).toNat % 16 + (packed y).toNat % 16)
    (hC : flagC f = true ↔ 255 < (packed x).toNat + (packed y).toNat) :
    (daa a f).1 = packed ((x + y) % 100) ∧ (flagC (daa a f).2 = true ↔ 100 ≤ x + y) := by
  obtain ⟨-, -, -, -, -, -, -, hcarry⟩ := flagsAre_daa a f
  rw [toNat_packed_mod hx, toNat_packed_mod hy] at hH
  rw [toNat_packed hx, toNat_packed hy] at ha hC
  have hlow : flagH f = true ∨ 9 < a.toNat % 16 ↔ 10 ≤ x % 10 + y % 10 := by
    rw [hH]
    omega
  have hhigh : flagC f = true ∨ 0x99 < a.toNat ↔ 100 ≤ x + y := by
    rw [hC]
    by_cases hwrap : 255 < 16 * (x / 10) + x % 10 + (16 * (y / 10) + y % 10)
    · omega
    · rw [Nat.mod_eq_of_lt (by omega)] at ha
      omega
  refine ⟨BitVec.eq_of_toNat_eq ?_, hcarry.trans hhigh⟩
  simp only [daa_fst, hN, Bool.false_eq_true, if_false, hlow, hhigh, BitVec.toNat_add, BitVec.toNat_ofNat,
    toNat_packed (Nat.mod_lt (x + y) (by decide : 100 > 0))]
  split_ifs <;> omega

/-- `DAA` on the difference of two packed operands: its low correction stands for the borrow between the digits, its high one for the
borrow out of them. -/
theorem daa_of_packed_difference {a f : Byte} {x y : Nat} (hx : x < 100) (hy : y < 100)
    (ha : (a.toNat : Int) = ((packed x).toNat - (packed y).toNat) % 256) (hN : flagN f = true)
    (hH : flagH f = true ↔ (packed x).toNat % 16 < (packed y).toNat % 16)
    (hC : flagC f = true ↔ (packed x).toNat < (packed y).toNat) :
    (daa a f).1 = packed ((x + 100 - y) % 100) ∧ (flagC (daa a f).2 = true ↔ x < y) := by
  obtain ⟨-, -, -, -, -, -, -, hcarry⟩ := flagsAre_daa a f
  rw [toNat_packed_mod hx, toNat_packed_mod hy] at hH
  rw [toNat_packed hx, toNat_packed hy] at ha hC
  have hlow : flagH f = true ∨ 9 < a.toNat % 16 ↔ x % 10 < y % 10 := by
    rw [hH]
    omega
  have hhigh : flagC f = true ∨ 0x99 < a.toNat ↔ x < y := by
    rw [hC]
    by_cases hwrap : 16 * (x / 10) + x % 10 < 16 * (y / 10) + y % 10
    · omega
    · rw [Int.emod_eq_of_lt (by omega) (by omega)] at ha
      omega
  refine ⟨BitVec.eq_of_toNat_eq ?_, hcarry.trans hhigh⟩
  simp only [daa_fst, hN, if_true, hlow, hhigh, BitVec.toNat_sub, BitVec.toNat_ofNat,
    toNat_packed (Nat.mod_lt (x + 100 - y) (by decide : 100 > 0))]
  split_ifs <;> omega

theorem daa_add8_packed {x y : Nat} (hx : x < 100) (hy : y < 100) :
    let r := add8 (packed x) (packed y) false
    (daa r.1 r.2).1 = packed ((x + y) % 100) ∧ (flagC (daa r.1 r.2).2 = true ↔ 100 ≤ x + y) := by
  obtain ⟨-, -, -, hH, -, -, hN, hC⟩ := flagsAre_add8 (packed x) (packed y) false
  exact daa_of_packed_sum hx hy (BitVec.toNat_ofNat ..) (Bool.eq_false_iff.2 hN.1) hH hC

theorem daa_sub8_packed {x y : Nat} (hx : x < 100) (hy : y < 100) :
    let r := sub8 (packed x) (packed y) false
    (daa r.1 r.2).1 = packed ((x + 100 - y) % 100) ∧ (flagC (daa r.1 r.2).2 = true ↔ x < y) := by
  obtain ⟨-, -, -, hH, -, -, hN, hC⟩ := flagsAre_sub8 (packed x) (packed y) false
  refine daa_of_packed_difference hx hy ?_ (hN.2 trivial) (hH.trans ?_) (hC.trans ?_)
  · rw [sub8, sub8Res, BitVec.toNat_ofInt, Bool.toNat_false]
    omega
  · simp only [Bool.toNat_false]
    omega
  · simp only [Bool.toNat_false]
    omega

/-- Settles O25: `DAA` is `daa`, whose flags `flagsAre_daa` gives; `daa_add8_packed` and `daa_sub8_packed` after `ADD` and `SUB`. -/
theorem daaAdjustsToPackedDecimal : Obligations.DaaAdjustsToPackedDecimal := by
  refine ⟨fun s => ?correction, fun s x y hx hy ha => ⟨?sum, ?difference⟩⟩
  case correction =>
    simp only [← daa_fst]
    exact ⟨_, exec_zDaa, flagsAre_daa ..⟩
  case sum =>
    refine ⟨_, _, exec_addInstr false (o := .imm (packed y)) trivial, exec_zDaa, ?_⟩
    rw [ha]
    exact daa_add8_packed hx hy
  case difference =>
    refine ⟨_, _, exec_subInstr false (o := .imm (packed y)) trivial, exec_zDaa, ?_⟩
    rw [ha]
    exact daa_sub8_packed hx hy

/-! ## `CPL`, `NEG`, `CCF`, `SCF` (R311 to R314, R507) -/

theorem sub8_zero_fst (a : Byte) : (sub8 0 a false).1 = -a := by rw [sub8, sub8Res_false, zero_sub]

/-- `NEG` has the flags of a subtraction from 0 (R312). -/
theorem flagsAre_neg (a : Byte) :
    FlagsAre (sub8 0 a false).2 (128 ≤ (-a).toNat) (a = 0) ((-a).getLsbD 5) (a.toNat % 16 ≠ 0) ((-a).getLsbD 3) (a = 0x80) True
      (a ≠ 0) := by
  have hsub := flagsAre_sub8 0 a false
  have hres : BitVec.ofInt 8 ((0 : Byte).toNat - a.toNat - false.toNat) = -a := sub8_zero_fst a
  simp only [hres] at hsub
  have hzeroNat : (0 : Byte).toNat = 0 := rfl
  have hzeroInt : (0 : Byte).toInt = 0 := rfl
  have hmin : a = 0x80 ↔ a.toInt = -128 := BitVec.toInt_inj.symm
  have hzero : a = 0 ↔ a.toNat = 0 := BitVec.toNat_inj.symm
  obtain ⟨hlo, hhi⟩ := toInt_bounds (n := 7) a
  refine hsub.congr .rfl neg_eq_zero .rfl ?half .rfl ?overflow .rfl ?borrow
  case half =>
    simp only [hzeroNat, Bool.toNat_false]
    omega
  case overflow =>
    simp only [hmin, hzeroInt, Bool.toNat_false, Overflows8]
    omega
  case borrow =>
    simp only [ne_eq, hzero, hzeroNat, Bool.toNat_false]
    omega

theorem flagsAre_cpl (a f : Byte) :
    FlagsAre (cpl a f).2 (flagS f) (flagZ f) ((~~~a).getLsbD 5) True ((~~~a).getLsbD 3) (flagPV f) True (flagC f) := by
  have hnot : a ^^^ 0xFF = ~~~a := BitVec.xor_allOnes
  rw [cpl, hnot]
  exact (flagsAre_mkF ..).congr .rfl .rfl .rfl (by simp) .rfl .rfl (by simp) .rfl

/-- `NEG` and its copies are a subtraction from 0. -/
theorem exec_neg {i : Instr} (hi : i = .zNeg ∨ (s.cfg.z80Undoc = true ∧ ∃ y, i = .zNegCopy y)) :
    exec i s = .next { s with z := { s.z with a := -s.z.a, f := (sub8 0 s.z.a false).2 } } := by
  rw [← sub8_zero_fst]
  obtain rfl | ⟨hu, y, rfl⟩ := hi
  · rfl
  · exact undocumented_of_z80Undoc hu _ _

/-- Settles O26: `exec_neg` and `flagsAre_neg` for `NEG` and its copies, `flagsAre_cpl` for `CPL`; the flags of `CCF` and `SCF` stand
in their rules. -/
theorem complementNegateAndCarryOperations : Obligations.ComplementNegateAndCarryOperations := by
  intro s
  refine ⟨⟨_, ?cpl, flagsAre_cpl s.z.a s.z.f⟩, fun i hi => ⟨_, exec_neg hi, flagsAre_neg _⟩,
    ⟨_, rfl, (flagsAre_mkF ..).congr .rfl .rfl .rfl .rfl .rfl .rfl (by simp) (by simp)⟩,
    ⟨_, rfl, (flagsAre_mkF ..).congr .rfl .rfl .rfl (by simp) .rfl .rfl (by simp) (by simp)⟩⟩
  rw [← (BitVec.xor_allOnes : s.z.a ^^^ 0xFF = ~~~s.z.a)]
  rfl

end Sys2Proof.Machine
end

/-! The rotates, shifts and bit instructions of the Z80 (spec/42_z80_rotate_bit.md): each result and the bit shifted out as
numbers, the flags of each group, and one lemma for each group of instructions over the places it works on. -/
section
namespace Sys2Proof.Machine

variable {s : State}

/-! ## Bits put side by side, as numbers -/

/-- Bits below bit `i` joined to bits from `i` on: the numbers add. -/
theorem or_eq_ofNat_add {w i k : Nat} {x y : BitVec w} (hx : x.toNat = 2 ^ i * k) (hy : y.toNat < 2 ^ i) :
    x ||| y = BitVec.ofNat w (x.toNat + y.toNat) := by
  rw [hx, Nat.two_pow_add_eq_or_of_lt hy, ← hx, ← BitVec.toNat_or, BitVec.ofNat_toNat, BitVec.setWidth_eq]

theorem toNat_boolByte (b : Bool) : (boolByte b).toNat = b.toNat := by cases b <;> rfl

theorem toNat_boolByte_shiftLeft (b : Bool) : (boolByte b <<< 7).toNat = 128 * b.toNat := by cases b <;> rfl

theorem toNat_msb (v : Byte) : v.msb.toNat = v.toNat / 128 := by
  have hv := v.isLt
  rw [BitVec.msb_eq_getLsbD_last, BitVec.getLsbD, Nat.toNat_testBit]
  omega

theorem toNat_bit0 (v : Byte) : (v.getLsbD 0).toNat = v.toNat % 2 := by
  rw [BitVec.getLsbD, Nat.toNat_testBit, pow_zero, Nat.div_one]

theorem toNat_shiftLeft1 (v : Byte) : (v <<< 1).toNat = 2 * v.toNat % 256 := by
  rw [BitVec.toNat_shiftLeft, Nat.shiftLeft_eq, pow_one, Nat.mul_comm]

theorem toNat_shiftRight1 (v : Byte) : (v >>> 1).toNat = v.toNat / 2 := by
  rw [BitVec.toNat_ushiftRight, Nat.shiftRight_eq_div_pow, pow_one]

/-- A left shift with the bit `b` put in at the bottom. -/
theorem shiftLeft1_or_boolByte (v : Byte) (b : Bool) :
    (v <<< 1) ||| boolByte b = BitVec.ofNat 8 (2 * v.toNat % 256 + b.toNat) := by
  have hshift : (v <<< 1).toNat = 2 ^ 1 * (v.toNat % 128) := by
    rw [toNat_shiftLeft1]
    omega
  have hbit : (boolByte b).toNat < 2 ^ 1 := (toNat_boolByte b).trans_lt b.toNat_lt
  rw [or_eq_ofNat_add hshift hbit, toNat_shiftLeft1, toNat_boolByte]

/-- A right shift with the bit `b` put in at the top. -/
theorem shiftRight1_or_boolByte (v : Byte) (b : Bool) :
    (v >>> 1) ||| (boolByte b <<< 7) = BitVec.ofNat 8 (v.toNat / 2 + 128 * b.toNat) := by
  have hshift : (v >>> 1).toNat < 2 ^ 7 := by
    rw [toNat_shiftRight1]
    omega
  rw [BitVec.or_comm, or_eq_ofNat_add (toNat_boolByte_shiftLeft b) hshift, toNat_boolByte_shiftLeft, toNat_shiftRight1,
    Nat.add_comm]

/-- `SRA` puts bit 7 back in at the top (R360). -/
theorem and_highBit (v : Byte) : v &&& (0x80 : Byte) = boolByte v.msb <<< 7 := by
  have h : v &&& BitVec.twoPow 8 7 = if v.getLsbD 7 then BitVec.twoPow 8 7 else 0 := BitVec.and_twoPow v 7
  rw [BitVec.msb_eq_getLsbD_last, boolByte]
  refine h.trans ?_
  split_ifs <;> rfl

/-! ## The eight rotates and shifts, as numbers (R355 to R361, R504) -/

theorem rotate_fst (rot : Rot) (v : Byte) (c : Bool) :
    (rotate rot v c).1 = BitVec.ofNat 8 (shiftNumbers rot v.toNat c.toNat).1 := by
  cases rot with
  | rlc => rw [rotate, shiftNumbers, shiftLeft1_or_boolByte, toNat_msb]
  | rrc => rw [rotate, shiftNumbers, shiftRight1_or_boolByte, toNat_bit0]
  | rl => exact shiftLeft1_or_boolByte v c
  | rr => exact shiftRight1_or_boolByte v c
  | sla => rw [rotate, shiftNumbers, ← toNat_shiftLeft1, BitVec.ofNat_toNat, BitVec.setWidth_eq]
  | sra => rw [rotate, shiftNumbers, and_highBit, shiftRight1_or_boolByte, toNat_msb]
  | sll => exact shiftLeft1_or_boolByte v true
  | srl => rw [rotate, shiftNumbers, ← toNat_shiftRight1, BitVec.ofNat_toNat, BitVec.setWidth_eq]

theorem toNat_rotate_snd (rot : Rot) (v : Byte) (c : Bool) :
    (rotate rot v c).2.toNat = (shiftNumbers rot v.toNat c.toNat).2 := by
  cases rot with
  | rlc | rl | sla | sll => exact toNat_msb v
  | rrc | rr | sra | srl => exact toNat_bit0 v

theorem rotate_snd_iff (rot : Rot) (v : Byte) (c : Bool) :
    (rotate rot v c).2 = true ↔ (shiftNumbers rot v.toNat c.toNat).2 = 1 := by
  rw [← toNat_rotate_snd, Bool.toNat_eq_one]

/-! ## Their flags (R350 to R354) -/

theorem flagsAre_rotateM (rot : Rot) (v f : Byte) :
    let n := shiftNumbers rot v.toNat (flagC f).toNat
    let r := BitVec.ofNat 8 n.1
    FlagsAre (rotateM rot v f).2 (128 ≤ r.toNat) (r = 0) (r.getLsbD 5) False (r.getLsbD 3) (EvenOnes r) False (n.2 = 1) := by
  intro n r
  have hres : (rotate rot v (flagC f)).1 = r := rotate_fst ..
  rw [rotateM, hres]
  exact (flagsAre_sz53p ..).congr .rfl .rfl .rfl (by simp) .rfl .rfl (by simp) (rotate_snd_iff ..)

theorem flagsAre_rotateA (rot : Rot) (a f : Byte) :
    let n := shiftNumbers rot a.toNat (flagC f).toNat
    let r := BitVec.ofNat 8 n.1
    FlagsAre (rotateA rot a f).2 (flagS f) (flagZ f) (r.getLsbD 5) False (r.getLsbD 3) (flagPV f) False (n.2 = 1) := by
  intro n r
  have hres : (rotate rot a (flagC f)).1 = r := rotate_fst ..
  rw [rotateA, hres]
  exact (flagsAre_mkF ..).congr .rfl .rfl .rfl (by simp) .rfl .rfl (by simp) (rotate_snd_iff ..)

/-! ## Rotates and shifts in place (R350, R504, R505) -/

theorem modifyCopy_eq (xy : XYReg) (d : Byte) (r : Reg8) (op : Byte → Byte → Byte × Byte) :
    modifyCopy xy d r op s = .next ((Place8.copy xy d r).modify op s) := by
  simp only [modifyCopy, Place8.modify, Place8.read, Place8.write, memRead_z, Z80.ea, sext8, State.onZ_onZ]

/-- A rotate or shift changes its place by `rotateM`, in each form of a place that has one. -/
theorem exec_rotInstr {rot : Rot} {p : Place8} {i : Instr} (hi : rotInstr rot p = some i)
    (h : rotUndocumented rot p → s.cfg.z80Undoc = true) : exec i s = .next (p.modify (rotateM rot) s) := by
  cases p with
  | reg r =>
    cases hi
    cases rot with
    | sll => exact (undocumented_of_z80Undoc (h (.inl rfl)) _ _).trans (regsZ_update8 r _)
    | _ => exact regsZ_update8 r _
  | memHl =>
    rw [← modifyZ_hl]
    cases hi
    cases rot with
    | sll => exact undocumented_of_z80Undoc (h (.inl rfl)) _ fun s => .next (modifyZ s.z.hl (rotateM .sll) s)
    | _ => rfl
  | memXy xy d =>
    rw [← modifyZ_ea]
    cases hi
    cases rot with
    | sll => exact undocumented_of_z80Undoc (h (.inl rfl)) _ fun s => .next (modifyZ (s.z.ea xy d) (rotateM .sll) s)
    | _ => rfl
  | half => cases hi
  | copy xy d r =>
    cases hi
    exact (undocumented_of_z80Undoc (h (.inr ⟨xy, d, r, rfl⟩)) _ _).trans (modifyCopy_eq xy d r _)

/-- Settles O28: `exec_rotInstr` for every place, `rotate_fst` for the result, `flagsAre_rotateM` for the flags. -/
theorem rotatesAndShiftsWorkInPlace : Obligations.RotatesAndShiftsWorkInPlace := by
  intro rot p i s hi h
  refine ⟨_, ?_, flagsAre_rotateM ..⟩
  rw [exec_rotInstr hi h, Place8.modify, rotateM, rotate_fst]

/-! ## The rotates of `A` and of digits (R351 to R354, R363, R364) -/

theorem exec_rotateA {rot : Rot} {i : Instr} (h : (rot, i) ∈ [(.rlc, .zRlca), (.rrc, .zRrca), (.rl, .zRla), (.rr, .zRra)]) :
    exec i s = .next { s with z := { s.z with a := (rotateA rot s.z.a s.z.f).1, f := (rotateA rot s.z.a s.z.f).2 } } := by
  simp only [List.mem_cons, List.not_mem_nil, or_false, Prod.mk.injEq] at h
  obtain ⟨rfl, rfl⟩ | ⟨rfl, rfl⟩ | ⟨rfl, rfl⟩ | ⟨rfl, rfl⟩ := h <;> rfl

theorem toNat_shiftLeft4 (v : Byte) : (v <<< 4).toNat = 16 * (v.toNat % 16) := by
  rw [BitVec.toNat_shiftLeft, Nat.shiftLeft_eq]
  omega

theorem toNat_shiftRight4 (v : Byte) : (v >>> 4).toNat = v.toNat / 16 := by
  rw [BitVec.toNat_ushiftRight, Nat.shiftRight_eq_div_pow]

theorem toNat_and_lowDigit (v : Byte) : (v &&& (0x0F : Byte)).toNat = v.toNat % 16 :=
  (BitVec.toNat_and ..).trans (Nat.and_two_pow_sub_one_eq_mod v.toNat 4)

theorem toNat_and_highDigit (v : Byte) : (v &&& (0xF0 : Byte)).toNat = 16 * (v.toNat / 16) := by
  have hmask : v >>> 4 <<< 4 = v &&& (0xF0 : Byte) := BitVec.shiftLeft_ushiftRight
  have hv := v.isLt
  rw [← hmask, toNat_shiftLeft4, toNat_shiftRight4]
  omega

/-- A byte put together from its two digits `m` and `n`. -/
theorem digits_or {x y : Byte} {m n : Nat} (hx : x.toNat = 16 * m) (hy : y.toNat = n) (hn : n < 16) :
    x ||| y = BitVec.ofNat 8 (16 * m + n) := by
  rw [or_eq_ofNat_add (i := 4) hx (hy.trans_lt hn), hx, hy]

/-- `RLD` and `RRD` on the state before them: the byte `mem` goes to memory and `acc` to `A`, the carry stays (R363, R364). -/
theorem decimalRotate_eq {op : Byte → Byte → Byte × Byte} {mem acc : Byte}
    (hop : op s.z.a (memRead s.z.hl s).1 = (mem, acc)) :
    decimalRotate op s = (memWrite s.z.hl mem (memRead s.z.hl s).2).onZ fun z =>
      { z with a := acc, f := sz53p acc false false (flagC s.z.f) } := by
  rw [decimalRotate]
  simp only [memRead_z, hop]
  exact State.onZ_congr (by rw [memWrite_z, memRead_z])

/-- The flags of `RLD` and `RRD`: those of the new `A`, the carry stays (R363, R364). -/
theorem flagsAre_digitRotate (acc f : Byte) :
    FlagsAre (sz53p acc false false (flagC f)) (128 ≤ acc.toNat) (acc = 0) (acc.getLsbD 5) False (acc.getLsbD 3) (EvenOnes acc)
      False (flagC f) :=
  (flagsAre_sz53p ..).congr .rfl .rfl .rfl (by simp) .rfl .rfl (by simp) .rfl

/-- Settles O27: `exec_rotateA` and `flagsAre_rotateA` for the rotates of `A`; `decimalRotate_eq` for those of digits, each byte
put together from its digits by `digits_or`. -/
theorem accumulatorAndDigitRotates : Obligations.AccumulatorAndDigitRotates := by
  refine ⟨fun s rot i h => ?accumulator, fun s => ⟨?rld, ?rrd⟩⟩
  case accumulator =>
    refine ⟨_, ?_, flagsAre_rotateA ..⟩
    rw [exec_rotateA h, rotateA, rotate_fst]
  case rld =>
    refine ⟨_, congrArg Host.Outcome.next (decimalRotate_eq (Prod.ext ?_ ?_)), ?_⟩
    · exact digits_or (toNat_shiftLeft4 _) (toNat_and_lowDigit _) (by omega)
    · exact digits_or (toNat_and_highDigit _) (toNat_shiftRight4 _) (by omega)
    · exact flagsAre_digitRotate ..
  case rrd =>
    refine ⟨_, congrArg Host.Outcome.next (decimalRotate_eq (Prod.ext ?_ ?_)), ?_⟩
    · exact digits_or (toNat_shiftLeft4 _) (toNat_shiftRight4 _) (by omega)
    · exact digits_or (toNat_and_highDigit _) (toNat_and_lowDigit _) (by omega)
    · exact flagsAre_digitRotate ..

/-! ## `BIT` (R365 to R367, R506) -/

theorem getLsbD_bitMask (b : BitVec 3) (k : Nat) : (bitMask b).getLsbD k = decide (k = b.toNat) := by
  have hb : b.toNat < 8 := b.isLt
  refine (BitVec.getLsbD_twoPow b.toNat k).trans ?_
  simp [hb, eq_comm]

theorem bitMask_ne_zero (b : BitVec 3) : bitMask b ≠ 0 := fun h => by
  have hbit := getLsbD_bitMask b b.toNat
  simp [h] at hbit

theorem and_bitMask (b : BitVec 3) (v : Byte) : v &&& bitMask b = if v.getLsbD b.toNat then bitMask b else 0 :=
  BitVec.and_twoPow v b.toNat

theorem and_bitMask_eq_zero_iff (b : BitVec 3) (v : Byte) : v &&& bitMask b = 0 ↔ v.getLsbD b.toNat = false := by
  rw [and_bitMask]
  split_ifs with hbit
  · exact iff_of_false (bitMask_ne_zero b) (by simp [hbit])
  · exact iff_of_true rfl (Bool.eq_false_iff.2 hbit)

theorem flagsAre_bitFlags (b : BitVec 3) (v : Byte) (f5 f3 : Bool) (f : Byte) :
    FlagsAre (bitFlags b v f5 f3 f) (b = 7 ∧ v.getLsbD 7 = true) (v.getLsbD b.toNat = false) (f5 = true) True (f3 = true)
      (v.getLsbD b.toNat = false) False (flagC f = true) := by
  have hzero : (v &&& bitMask b == 0) = true ↔ v.getLsbD b.toNat = false := beq_iff_eq.trans (and_bitMask_eq_zero_iff b v)
  refine (flagsAre_mkF ..).congr ?sign hzero .rfl (by simp) .rfl hzero (by simp) .rfl
  case sign =>
    rw [Bool.and_eq_true, beq_iff_eq, bne_iff_ne, ne_eq, and_bitMask_eq_zero_iff, Bool.not_eq_false]
    exact and_congr_right fun hb => by rw [hb]; rfl

/-- The flags of `BIT`, in the words of the statement. -/
theorem bitFlags_tested (b : BitVec 3) (v : Byte) (f5 f3 : Bool) (f : Byte) :
    let g := bitFlags b v f5 f3 f
    ((flagZ g = true ↔ v.getLsbD b.toNat = false) ∧ (flagPV g = true ↔ v.getLsbD b.toNat = false) ∧
      (flagS g = true ↔ b = 7 ∧ v.getLsbD 7 = true) ∧ flagH g = true ∧ flagN g = false ∧ flagC g = flagC f) ∧
    flag5 g = f5 ∧ flag3 g = f3 := by
  obtain ⟨hS, hZ, h5, hH, h3, hPV, hN, hC⟩ := flagsAre_bitFlags b v f5 f3 f
  exact ⟨⟨hZ, hPV, hS, hH.2 trivial, Bool.eq_false_iff.2 hN.1, Bool.eq_iff_iff.2 hC⟩, Bool.eq_iff_iff.2 h5,
    Bool.eq_iff_iff.2 h3⟩

/-- `BIT b,(HL)`: `F5` and `F3` are two bits of the free value, which is used up (R366, log 8). -/
theorem exec_zBitBMemHl (b : BitVec 3) :
    let r := memRead s.z.hl s
    let free := Config.freeFlags r.2.tick
    exec (.zBitBMemHl b) s = .next ({ r.2 with tick := r.2.tick + 1 }.onZ fun z =>
      { z with f := bitFlags b r.1 (free.getLsbD 5) (free.getLsbD 3) s.z.f }) := by
  intro r free
  have hz : r.2.z = s.z := memRead_z ..
  exact congrArg Host.Outcome.next (State.onZ_congr (by rw [hz]))

/-- `BIT b,(XY+d)` and its undocumented copies (R367, R506). -/
theorem exec_bitIndexed {xy : XYReg} {d : Byte} {b : BitVec 3} {i : Instr}
    (hi : i = .zBitBMemXy xy d b ∨ (s.cfg.z80Undoc = true ∧ ∃ z, i = .zBitBMemXyZ xy d b z)) :
    let ad := s.z.getXY xy + d.signExtend 16
    exec i s = .next ((memRead ad s).2.onZ fun z =>
      { z with f := bitFlags b (memRead ad s).1 (ad.getLsbD 13) (ad.getLsbD 11) s.z.f }) := by
  intro ad
  have hmeaning : bitIndexed xy d b s = .next ((memRead ad s).2.onZ fun z =>
      { z with f := bitFlags b (memRead ad s).1 (ad.getLsbD 13) (ad.getLsbD 11) s.z.f }) :=
    congrArg Host.Outcome.next (State.onZ_congr (by rw [memRead_z]; rfl))
  obtain rfl | ⟨hu, z, rfl⟩ := hi
  · exact hmeaning
  · exact (undocumented_of_z80Undoc hu _ _).trans hmeaning

/-! ## `SET` and `RES` (R368, R369, R505) -/

/-- `SET` of a place where `new` holds, else `RES`. -/
def bitInstr : Bool → BitVec 3 → Place8 → Option Instr
  | true => setInstr
  | false => resInstr

/-- What `SET` does to the byte where `new` holds, else what `RES` does. -/
def writeBit : Bool → BitVec 3 → Byte → Byte → Byte × Byte
  | true => setBit
  | false => resBit

theorem getLsbD_writeBit (new : Bool) (b : BitVec 3) (v f : Byte) {k : Nat} (hk : k < 8) :
    (writeBit new b v f).1.getLsbD k = if k = b.toNat then new else v.getLsbD k := by
  cases new with
  | true =>
    rw [writeBit, setBit, BitVec.getLsbD_or, getLsbD_bitMask]
    split_ifs with hkb <;> simp [hkb]
  | false =>
    rw [writeBit, resBit, BitVec.getLsbD_and, BitVec.getLsbD_not, getLsbD_bitMask]
    split_ifs with hkb <;> simp [hkb, hk]

/-- `SET` and `RES` change their place by `setBit` and `resBit`, in each form of a place that has them. -/
theorem exec_bitInstr (new : Bool) {b : BitVec 3} {p : Place8} {i : Instr}
    (h : s.cfg.z80Undoc = true ∨ ∀ xy d r, p ≠ .copy xy d r) (hi : bitInstr new b p = some i) :
    exec i s = .next (p.modify (writeBit new b) s) := by
  cases p with
  | reg r => cases new <;> cases hi <;> exact regsZ_update8 r _
  | memHl => cases new <;> cases hi <;> exact congrArg Host.Outcome.next (modifyZ_hl _)
  | memXy xy d => cases new <;> cases hi <;> exact congrArg Host.Outcome.next (modifyZ_ea xy d _)
  | half => cases new <;> cases hi
  | copy xy d r =>
    have hu : s.cfg.z80Undoc = true := h.resolve_right fun hne => hne xy d r rfl
    cases new <;> cases hi <;> exact (undocumented_of_z80Undoc hu _ _).trans (modifyCopy_eq xy d r _)

theorem Place8.read_z (p : Place8) : (p.read s).2.z = s.z := by
  cases p with
  | memHl | memXy | copy => exact memRead_z _ _
  | reg | half => rfl

theorem set8_f (r : Reg8) (v : Byte) (z : Z80) : (z.set8 r v).f = z.f := by cases r <;> rfl

theorem setHalf_f (xy : XYReg) (l : Half) (v : Byte) (z : Z80) : (z.setHalf xy l v).f = z.f := by
  cases l <;> cases xy <;> rfl

theorem Place8.write_f (p : Place8) (v : Byte) : (p.write v s).z.f = s.z.f := by
  cases p with
  | reg r => exact set8_f ..
  | memHl | memXy => exact congrArg Z80.f (memWrite_z ..)
  | half xy l => exact setHalf_f ..
  | copy => exact (set8_f ..).trans (congrArg Z80.f (memWrite_z ..))

/-- An operation that gives back the old flags writes its place and nothing else. -/
theorem Place8.modify_of_sameFlags (p : Place8) {op : Byte → Byte → Byte × Byte} (h : ∀ v f, (op v f).2 = f) :
    p.modify op s = p.write (op (p.read s).1 s.z.f).1 (p.read s).2 := by
  have hf (t : State) (ht : t.z.f = s.z.f) : (t.onZ fun z => { z with f := s.z.f }) = t := by rw [← ht]; rfl
  rw [Place8.modify, h]
  exact hf _ (by rw [Place8.write_f, Place8.read_z])

theorem writeBit_snd (new : Bool) (b : BitVec 3) (v f : Byte) : (writeBit new b v f).2 = f := by cases new <;> rfl

/-- `SET` and `RES` write the bit in place and no flag. -/
theorem bitInstr_writesTheBit (new : Bool) {b : BitVec 3} {p : Place8} {i : Instr}
    (h : s.cfg.z80Undoc = true ∨ ∀ xy d r, p ≠ .copy xy d r) (hi : bitInstr new b p = some i) :
    ∃ res : Byte, (∀ k, k < 8 → res.getLsbD k = if k = b.toNat then new else (p.read s).1.getLsbD k) ∧
      exec i s = .next (p.write res (p.read s).2) :=
  ⟨_, fun _ hk => getLsbD_writeBit new b _ s.z.f hk,
    (exec_bitInstr new h hi).trans (congrArg Host.Outcome.next (p.modify_of_sameFlags (writeBit_snd new b)))⟩

/-- Settles O29: `bitFlags_tested` for the flags of every form of `BIT`, `bitInstr_writesTheBit` for `SET` and `RES`. -/
theorem bitTestsSetsAndResets : Obligations.BitTestsSetsAndResets := by
  refine ⟨fun s b => ⟨fun r => ⟨_, rfl, bitFlags_tested ..⟩, ?memHl, fun xy d i hi => ?indexed⟩,
    fun s b p i h => ⟨bitInstr_writesTheBit true h, bitInstr_writesTheBit false h⟩⟩
  case memHl =>
    obtain ⟨htested, -, -⟩ := bitFlags_tested b (memRead s.z.hl s).1 _ _ s.z.f
    exact ⟨_, exec_zBitBMemHl b, htested⟩
  case indexed => exact ⟨_, exec_bitIndexed hi, bitFlags_tested ..⟩

end Sys2Proof.Machine
end

/-! The control instructions of the Z80 (spec/43_z80_control.md): jumps, calls, restarts, returns, and the writers of the interrupt
state. A path that charges nothing is one with `cycZ 0`, so that each jump, call and return has one form. -/
section
namespace Sys2Proof.Machine

variable {s : State}

theorem cycZ_zero (s : State) : cycZ 0 s = s := by
  rw [cycZ, Nat.cast_zero]
  simp only [sub_zero]
  rfl

/-! ## Jumps (R401 to R407) -/

theorem exec_zJpNn (nn : Word) : exec (.zJpNn nn) s = .next (jumpZ nn s) := rfl
theorem exec_zJpCcNn (cc : Cond8) (nn : Word) :
    exec (.zJpCcNn cc nn) s = .next (if holds8 cc s.z.f = true then jumpZ nn s else s) := rfl
theorem exec_zJr (e : Byte) : exec (.zJr e) s = .next (jumpZ (s.z.pc + sext8 e) s) := rfl
theorem exec_zJrCc (cc : Cond4) (e : Byte) :
    exec (.zJrCc cc e) s =
      .next (if holds4 cc s.z.f = true then cycZ s.cfg.cyc.jrTaken (jumpZ (s.z.pc + sext8 e) s) else s) := rfl
theorem exec_zJpHl : exec .zJpHl s = .next (jumpZ s.z.hl s) := rfl
theorem exec_zJpXy (xy : XYReg) : exec (.zJpXy xy) s = .next (jumpZ (s.z.getXY xy) s) := rfl

/-- A jump and its extra cycles, as one change of the record. -/
theorem cycZ_jumpZ (n : Nat) (a : Word) (s : State) :
    cycZ n (jumpZ a s) = { s with z := { s.z with pc := a, icount := s.z.icount - n } } := rfl

/-- A jump without extra cycles, in the form of `cycZ_jumpZ`. -/
theorem jumpZ_eq (a : Word) (s : State) :
    jumpZ a s = { s with z := { s.z with pc := a, icount := s.z.icount - (0 : Nat) } } :=
  (cycZ_zero _).symm.trans (cycZ_jumpZ 0 a s)

/-- `DJNZ` falls through where `B` was 1, the one value that counts down to 0 (R407). -/
theorem exec_zDjnz (e : Byte) :
    exec (.zDjnz e) s = .next (if s.z.b = 1 then { s with z := { s.z with b := 0 } } else
      cycZ s.cfg.cyc.djnzTaken (jumpZ (s.z.pc + sext8 e) { s with z := { s.z with b := s.z.b - 1 } })) := by
  have hmeaning : exec (.zDjnz e) s = .next (if s.z.b - 1 = 0 then { s with z := { s.z with b := s.z.b - 1 } } else
      cycZ s.cfg.cyc.djnzTaken (jumpZ (s.z.pc + sext8 e) { s with z := { s.z with b := s.z.b - 1 } })) := rfl
  rw [hmeaning]
  by_cases hb : s.z.b = 1
  · rw [if_pos hb, if_pos (sub_eq_zero.2 hb), sub_eq_zero.2 hb]
  · rw [if_neg hb, if_neg (mt sub_eq_zero.1 hb)]

/-- Settles O30: each condition is one flag bit, each jump is `jumpZ` with the cycles of its path (`cycZ_jumpZ`, `jumpZ_eq`). -/
theorem jumpsFollowTheirConditions : Obligations.JumpsFollowTheirConditions := by
  refine ⟨fun f => ⟨rfl, rfl, rfl, rfl, rfl, rfl, rfl, rfl, rfl, rfl, rfl, rfl⟩, fun s => ?jumps⟩
  case jumps =>
    refine ⟨fun nn => ?_, fun cc nn => ?_, fun e => ?_, fun cc e => ?_, ?_, fun xy => ?_, fun e => ?_⟩
    · rw [exec_zJpNn, jumpZ_eq]
    · rw [exec_zJpCcNn, jumpZ_eq]
    · rw [exec_zJr, jumpZ_eq, sext8]
    · rw [exec_zJrCc, cycZ_jumpZ, sext8]
    · rw [exec_zJpHl, jumpZ_eq, Z80.hl]
    · rw [exec_zJpXy, jumpZ_eq]
    · rw [exec_zDjnz, cycZ_jumpZ, sext8]

/-! ## Calls, restarts, returns (R408 to R414) -/

theorem exec_zCallNn (nn : Word) : exec (.zCallNn nn) s = .next (jumpZ nn (pushZ s.z.pc s)) := rfl
theorem exec_zCallCcNn (cc : Cond8) (nn : Word) :
    exec (.zCallCcNn cc nn) s =
      .next (if holds8 cc s.z.f = true then cycZ s.cfg.cyc.callTaken (jumpZ nn (pushZ s.z.pc s)) else s) := rfl
theorem exec_zRst (t : BitVec 3) : exec (.zRst t) s = .next (jumpZ (rstTarget t) (pushZ s.z.pc s)) := rfl
theorem exec_zRet : exec .zRet s = .next (popPC s) := rfl
theorem exec_zRetCc (cc : Cond8) :
    exec (.zRetCc cc) s = .next (if holds8 cc s.z.f = true then cycZ s.cfg.cyc.retTaken (popPC s) else s) := rfl
theorem exec_zReti : exec .zReti s = .next (returnZ s) := rfl
theorem exec_zRetn : exec .zRetn s = .next (returnZ s) := rfl

theorem exec_zRetnCopy (h : s.cfg.z80Undoc = true) (y : BitVec 3) : exec (.zRetnCopy y) s = .next (returnZ s) :=
  undocumented_of_z80Undoc h (.zRetnCopy y) fun s => .next (returnZ s)

theorem rstTarget_eq (t : BitVec 3) : rstTarget t = BitVec.ofNat 16 (8 * t.toNat) := by decide +revert

/-- A call with its extra cycles, as two writes on the state before it and one change of the record (R136, R408). -/
theorem cycZ_call (n : Nat) (a : Word) (s : State) :
    cycZ n (jumpZ a (pushZ s.z.pc s)) =
      (memWrite (s.z.sp - 2) (lo8 s.z.pc) (memWrite (s.z.sp - 1) (hi8 s.z.pc) s)).onZ fun z =>
        { z with sp := s.z.sp - 2, pc := a, icount := z.icount - n } := by
  rw [pushZ_at, cycZ_jumpZ_onZ]

/-- A return with its extra cycles, as two reads on the state before it and one change of the record (R136, R410). -/
theorem cycZ_popPC (n : Nat) (s : State) :
    cycZ n (popPC s) =
      let lo := memRead s.z.sp s
      let hi := memRead (s.z.sp + 1) lo.2
      hi.2.onZ fun z => { z with sp := s.z.sp + 2, pc := mk16 hi.1 lo.1, icount := z.icount - n } := by
  rw [popPC, popZ_at, cycZ_jumpZ_onZ]

theorem popPC_z (s : State) : (popPC s).z = { s.z with pc := (popZ s).1, sp := s.z.sp + 1 + 1 } := by simp [popPC]

/-- `RETI` and `RETN` return, then copy the `IFF2` from before the return (R412, R413, R840). -/
theorem returnZ_eq (s : State) : returnZ s = (popPC s).onZ fun z => { z with iff1 := s.z.iff2 } :=
  State.onZ_congr (by rw [popPC_z])

/-- Settles O31: `cycZ_call` and `cycZ_popPC`, with no extra cycles on the unconditional forms, and `returnZ_eq`. -/
theorem callsRestartsAndReturns : Obligations.CallsRestartsAndReturns := by
  intro s
  have hcall (a : Word) := (cycZ_zero _).symm.trans (cycZ_call 0 a s)
  have hret := (cycZ_zero _).symm.trans (cycZ_popPC 0 s)
  refine ⟨fun nn => ?_, fun cc nn => ?_, fun t => ?_, ?_, fun cc => ?_, ?_, ?_, fun hu y => ?_⟩
  · rw [exec_zCallNn, hcall]
  · rw [exec_zCallCcNn, cycZ_call]
  · rw [exec_zRst, hcall, rstTarget_eq]
  · rw [exec_zRet, hret]
  · rw [exec_zRetCc, cycZ_popPC]
  · rw [exec_zReti, returnZ_eq, hret]
  · rw [exec_zRetn, returnZ_eq, hret]
  · rw [exec_zRetnCopy hu, returnZ_eq, hret]

/-! ## The interrupt state (R415 to R421) -/

theorem exec_zEi :
    exec .zEi s = .next { s with z := { s.z with
      iff1 := true
      iff2 := true
      ibackup := if s.z.grace = true then s.z.ibackup + s.z.icount - 1 else s.z.icount
      icount := 1
      grace := true } } := rfl

/-- `EI` with the window closed saves the counter and opens it (R418). -/
theorem exec_zEi_of_closed (h : s.z.grace = false) :
    exec .zEi s = .next { s with z := { s.z with
      iff1 := true, iff2 := true, ibackup := s.z.icount, icount := 1, grace := true } } := by
  simp only [exec_zEi, h, Bool.false_eq_true, if_false]

/-- `EI` inside the window keeps it open and joins what is left of the counter to the saved one (R418, R838). -/
theorem exec_zEi_of_open (h : s.z.grace = true) :
    exec .zEi s = .next { s with z := { s.z with
      iff1 := true, iff2 := true, ibackup := s.z.ibackup + s.z.icount - 1, icount := 1 } } := by
  simp only [exec_zEi, h, if_true]

/-- Settles O32: `EI` by the window (`exec_zEi_of_closed`, `exec_zEi_of_open`), the copies of `IM` by `undocumented_of_z80Undoc`;
the others are their meanings. -/
theorem controlInstructionsWriteTheInterruptState : Obligations.ControlInstructionsWriteTheInterruptState := by
  intro s
  refine ⟨rfl, fun _ _ => rfl, fun _ _ => rfl, rfl, rfl, exec_zEi_of_closed, exec_zEi_of_open, rfl, rfl, rfl, fun hu => ?copies⟩
  case copies =>
    have hcopy := undocumented_of_z80Undoc hu
    exact ⟨hcopy _ _, hcopy _ _, hcopy _ _, hcopy _ _, hcopy _ _⟩

end Sys2Proof.Machine
end

/-! The instruction after `EI` (R418, R829, R838, R839): the step of `EI` leaves the window open with the counter saved, and the step
behind it gives the counter back, closes the window and samples. -/
section
namespace Sys2Proof.Machine

variable {s s1 t u w : State} {i : Instr}

/-! ## The step of `EI` -/

/-- What the step of `EI` leaves behind it: one instruction to run in the loop of `Execute`, and the counter saved (R418). -/
structure EiStepped (s t : State) : Prop where
  cfg : t.cfg = s.cfg
  phase : t.phase = .execLoop
  halted : t.z.halted = false
  grace : t.z.grace = true
  iff1 : t.z.iff1 = true
  iff2 : t.z.iff2 = true
  icount : t.z.icount = 1
  ibackup : t.z.ibackup = s.z.icount - costZ80 s.cfg .zEi

theorem step_zEi (hp : s.phase = .execLoop) (hc : s.cfg.cpu = .z80) (hcount : 0 < s.z.icount) (hhalt : s.z.halted = false)
    (hgrace : s.z.grace = false) (hf : fetch s = (some .zEi, s1)) (h : step s = .next t) : EiStepped s t := by
  obtain ⟨hcfg, hphase, hz⟩ := fetch_keeps hf
  have hclosed : (beginZ .zEi s1).z.grace = false := (congrArg Z80.grace hz).trans hgrace
  rw [step_z80 hp hf hc hcount hhalt, finishZ_of_closed (.inr rfl), exec_zEi_of_closed hclosed] at h
  cases h
  exact {
    cfg := hcfg
    phase := hphase.trans hp
    halted := (congrArg Z80.halted hz).trans hhalt
    grace := rfl
    iff1 := rfl
    iff2 := rfl
    icount := rfl
    ibackup := by simp [beginZ, hcfg, hz] }

/-! ## The step behind it -/

/-- The budget given back is the one saved before the instruction, which touches neither it nor the window (R838). -/
theorem closeWindow_exec (hi : i ≠ .zEi) (h : exec i s = .next u) :
    closeWindow u = u.onZ fun z => { z with grace := false, ibackup := 0, icount := z.icount + s.z.ibackup - 1 } := by
  obtain ⟨⟨-, -, -, -, -, -, -, -, hwindow⟩, -⟩ := exec_frame h
  obtain ⟨-, hbackup⟩ := hwindow hi
  exact State.onZ_congr (by rw [hbackup])

/-- With the window open, the end of the window follows an instruction that is no `EI` (R829). -/
theorem step_z80_of_open (hp : s.phase = .execLoop) (hc : s.cfg.cpu = .z80) (hcount : 0 < s.z.icount)
    (hhalt : s.z.halted = false) (hgrace : s.z.grace = true) (hi : i ≠ .zEi) (hf : fetch s = (some i, s1))
    (h : exec i (beginZ i s1) = .next u) : step s = graceEnd u := by
  rw [step_z80 hp hf hc hcount hhalt, hgrace, h, finishZ_of_open hi]

/-! ## The sample point at the end of the window -/

theorem graceEnd_unsampled (h : s.cfg.sampleAtGraceEnd = false) : graceEnd s = .next (closeWindow s) := by
  rw [graceEnd, h]
  rfl

theorem graceEnd_sampled (hc : s.cfg.cpu = .z80) (h : s.cfg.sampleAtGraceEnd = true) :
    graceEnd s = atSample (accept (closeWindow s)) id := by
  rw [graceEnd, if_pos h, accept_z80 (s := closeWindow s) hc]

/-- A stop on the Z80 answers its program counter (R829, R857). -/
theorem stopExecute_z80 (hc : s.cfg.cpu = .z80) :
    stopExecute s = { s with phase := .stopped, events := .executed s.z.pc true :: s.events } := by
  have hpc : s.pc = s.z.pc := by rw [State.pc, hc]
  rw [stopExecute, ← hpc]
  rfl

/-- A sample point that stops keeps the configuration (R857). -/
theorem accept_stop_cfg (h : accept s = .stop w) : w.cfg = s.cfg := by
  obtain ⟨-, rfl⟩ := accept_stop h
  rfl

/-- Settles O47: `step_zEi` opens the window, `step_z80_of_open` and `closeWindow_exec` close it behind one instruction, and
`graceEnd_sampled` goes by what the sample point answers. -/
theorem graceWindowLastsOneInstruction : Obligations.GraceWindowLastsOneInstruction := by
  intro i s s1 s2 t hp hc hcount hhalt hgrace hf hstep hf2 hi
  have hei := step_zEi hp hc hcount hhalt hgrace hf hstep
  refine ⟨hei.grace, hei.iff1, hei.iff2, hei.icount, hei.phase, fun u hu => ?_⟩
  obtain ⟨hcfg2, -, hz2⟩ := fetch_keeps hf2
  have hcfg : u.cfg = s.cfg := ((exec_completes i).runs hu).keepsVdpLegal.cfg.trans (hcfg2.trans hei.cfg)
  have hsaved : (beginZ i t).z.ibackup = s.z.icount - costZ80 s.cfg .zEi := (congrArg Z80.ibackup hz2).trans hei.ibackup
  have hclosed := closeWindow_exec hi hu
  rw [hsaved] at hclosed
  have hend : step s2 = graceEnd u := step_z80_of_open hei.phase (hei.cfg ▸ hc) (by rw [hei.icount]; decide) hei.halted
    hei.grace hi hf2 hu
  dsimp only
  rw [hend, ← hclosed]
  refine ⟨fun hs => graceEnd_unsampled (hcfg ▸ hs), fun hs => ?sampled⟩
  case sampled =>
    rw [graceEnd_sampled (hcfg ▸ hc) (hcfg ▸ hs)]
    refine ⟨fun w hw => ?ok, fun w hw => ?stop, fun hr => ?refused⟩
    case ok => rw [hw]; rfl
    case stop =>
      have hwcfg : w.cfg = s.cfg := (accept_stop_cfg hw).trans hcfg
      rw [hw, ← stopExecute_z80 (hwcfg ▸ hc)]
      rfl
    case refused => rw [hr]; rfl

end Sys2Proof.Machine
end

/-! The block and input/output instructions of the Z80 (spec/44_z80_block_io.md): each iteration as accesses on the state before it
and one change of the record, its flags bit by bit, and the repeat as a choice made on what the iteration leaves. -/
section
namespace Sys2Proof.Machine

variable {s : State}

/-! ## Single input and output (R459, R460, R465, R466, R508, R509) -/

theorem exec_zInRC (r : Reg8) :
    exec (.zInRC r) s = inputC (fun v z => { z.set8 r v with f := sz53p v false false (flagC z.f) }) s := rfl

theorem exec_zInFC (h : s.cfg.z80Undoc = true) :
    exec .zInFC s = inputC (fun v z => { z with f := sz53p v false false (flagC z.f) }) s :=
  undocumented_of_z80Undoc h .zInFC _

theorem exec_zOutC0 (h : s.cfg.z80Undoc = true) : exec .zOutC0 s = .next (portOut s.z.bc 0x00 s) :=
  undocumented_of_z80Undoc h .zOutC0 fun s => .next (portOut s.z.bc 0x00 s)

/-- No code of an 8-bit register names `F` (R173), so it does not matter which of the two is written first. -/
theorem set8_flags (z : Z80) (r : Reg8) (v f : Byte) : { z with f := f }.set8 r v = { z.set8 r v with f := f } := by
  cases r <;> rfl

/-- An input from port `BC` whose change of the record is known on the record before it (R460, R508). -/
theorem inputC_eq {f : Byte → Z80 → Z80} {g : Z80 → Z80} (h : f (portIn s.z.bc s).1 s.z = g s.z) :
    inputC f s = .next ((portIn s.z.bc s).2.onZ g) :=
  congrArg Host.Outcome.next (State.onZ_congr (by rw [portIn_z, h]))

/-- Settles O35: `inputC_eq` for the two inputs that set flags, the flags being those of any byte brought in with the carry kept
(`flagsAre_digitRotate`); the other instructions are their one access. -/
theorem portInstructionsUseTheWholePortAddress : Obligations.PortInstructionsUseTheWholePortAddress := by
  intro s
  refine ⟨fun _ => rfl, fun _ => rfl, fun r => ?inRC, fun _ => rfl, fun hu => ⟨?inFC, exec_zOutC0 hu⟩⟩
  case inRC => exact ⟨_, (exec_zInRC r).trans (inputC_eq (set8_flags ..).symm), flagsAre_digitRotate ..⟩
  case inFC => exact ⟨_, (exec_zInFC hu).trans (inputC_eq rfl), flagsAre_digitRotate ..⟩

/-! ## One iteration on the state before it -/

/-- One iteration of `LDI` or `LDD` (R451, R453). -/
theorem blockLoad_eq (step : Word) (s : State) :
    blockLoad step s =
      let r := memRead s.z.hl s
      let bc := s.z.bc - 1
      let hl := s.z.hl + step
      let de := s.z.de + step
      (memWrite s.z.de r.1 r.2).onZ fun z =>
        { z with h := hi8 hl, l := lo8 hl, d := hi8 de, e := lo8 de, b := hi8 bc, c := lo8 bc, f := ldiFlags s.z.a r.1 s.z.f bc } := by
  rw [blockLoad]
  exact State.onZ_congr (by rw [memWrite_z, memRead_z]; rfl)

/-- One iteration of `CPI` or `CPD` (R455, R457). -/
theorem blockCompare_eq (step : Word) (s : State) :
    blockCompare step s =
      let r := memRead s.z.hl s
      let bc := s.z.bc - 1
      let hl := s.z.hl + step
      r.2.onZ fun z => { z with h := hi8 hl, l := lo8 hl, b := hi8 bc, c := lo8 bc, f := cpiFlags s.z.a r.1 s.z.f bc } := by
  rw [blockCompare]
  exact State.onZ_congr (by rw [memRead_z]; rfl)

/-- One iteration of `INI` or `IND`: the port address has the `B` from before (R461, R463). -/
theorem blockIn_eq (step : Word) (j : Byte) (s : State) :
    blockIn step j s =
      let r := portIn s.z.bc s
      let b := s.z.b - 1
      let hl := s.z.hl + step
      (memWrite s.z.hl r.1 r.2).onZ fun z => { z with h := hi8 hl, l := lo8 hl, b := b, f := blockIoFlags r.1 b (s.z.c + j) } := by
  rw [blockIn]
  simp only [portIn_z]
  exact State.onZ_congr (by rw [memWrite_z, portIn_z]; rfl)

/-- One iteration of `OUTI` or `OUTD`: the port address has the new `B` (R467, R469). -/
theorem blockOut_eq (step : Word) (s : State) :
    blockOut step s =
      let r := memRead s.z.hl s
      let b := s.z.b - 1
      let hl := s.z.hl + step
      (portOut (mk16 b s.z.c) r.1 r.2).onZ fun z =>
        { z with h := hi8 hl, l := lo8 hl, b := b, f := blockIoFlags r.1 b (lo8 hl) } := by
  rw [blockOut]
  simp only [State.onZ_z, memRead_z, portOut_onZ, State.onZ_onZ]
  exact State.onZ_congr (by rw [portOut_z, memRead_z]; rfl)

/-! ## The flags of an iteration -/

/-- The flags of `LDI` and `LDD` (R451). -/
theorem flagsAre_ldiFlags (a t f : Byte) (bc : Word) :
    FlagsAre (ldiFlags a t f bc) (flagS f) (flagZ f) ((a + t).getLsbD 1) False ((a + t).getLsbD 3) (bc ≠ 0) False (flagC f) :=
  (flagsAre_mkF ..).congr .rfl .rfl .rfl (by simp) .rfl bne_iff_ne (by simp) .rfl

theorem subHalf_false_iff (a t : Byte) : subHalf a t false = true ↔ a.toNat % 16 < t.toNat % 16 := by
  simp only [subHalf, loNib_eq, decide_eq_true_iff, Bool.toNat_false]
  omega

/-- The number whose bits 1 and 3 `CPI` shows: the difference less its half borrow (R455). -/
theorem sub_boolByte_subHalf (a t : Byte) :
    a - t - boolByte (subHalf a t false) = if a.toNat % 16 < t.toNat % 16 then a - t - 1 else a - t := by
  by_cases h : a.toNat % 16 < t.toNat % 16
  · rw [if_pos h, (subHalf_false_iff a t).2 h]
    rfl
  · rw [if_neg h, Bool.eq_false_iff.2 (mt (subHalf_false_iff a t).1 h)]
    exact sub_zero _

/-- The flags of `CPI` and `CPD` (R455). -/
theorem flagsAre_cpiFlags (a t f : Byte) (bc : Word) :
    let half := a.toNat % 16 < t.toNat % 16
    let m := if half then a - t - 1 else a - t
    FlagsAre (cpiFlags a t f bc) (128 ≤ (a - t).toNat) (a = t) (m.getLsbD 1) half (m.getLsbD 3) (bc ≠ 0) True (flagC f) := by
  rw [cpiFlags, sub_boolByte_subHalf]
  exact (flagsAre_mkF ..).congr (msb_byte_iff _) (beq_iff_eq.trans sub_eq_zero) .rfl (subHalf_false_iff a t) .rfl bne_iff_ne
    (by simp) .rfl

theorem ofNat_and_seven (k : Nat) : (BitVec.ofNat 8 k &&& 7 : Byte) = BitVec.ofNat 8 (k % 8) := by
  apply BitVec.eq_of_toNat_eq
  calc (BitVec.ofNat 8 k &&& 7).toNat = k % 256 &&& 7 := rfl
    _ = k % 256 % 8 := Nat.and_two_pow_sub_one_eq_mod _ 3
    _ = k % 8 % 256 := by omega
    _ = (BitVec.ofNat 8 (k % 8)).toNat := rfl

/-- The flags of the block input and output instructions (R461, R467). -/
theorem flagsAre_blockIoFlags (t b j : Byte) :
    let k := t.toNat + j.toNat
    FlagsAre (blockIoFlags t b j) (128 ≤ b.toNat) (b = 0) (b.getLsbD 5) (255 < k) (b.getLsbD 3)
      (EvenOnes (BitVec.ofNat 8 (k % 8) ^^^ b)) (128 ≤ t.toNat) (255 < k) := by
  rw [blockIoFlags, ofNat_and_seven]
  exact (flagsAre_sz53 ..).congr .rfl .rfl .rfl decide_eq_true_iff .rfl (parity_iff _) (msb_byte_iff t) decide_eq_true_iff

/-! ## The repeat (R450, R935) -/

/-- A repeating instruction is its single form, then the test on the record that form leaves: the two bytes are fetched again, with
the extra cycles, when it holds. -/
theorem exec_repeating (p : Z80 → Prop) [DecidablePred p] {single again : Instr} {u : State} {test : Z80 → Bool}
    (hsingle : exec single s = .next u) (hagain : exec again s = .next (repeatIf test u)) (htest : ∀ z, test z = true ↔ p z) :
    ∃ t, exec single s = .next t ∧ exec again s = .next (if p t.z then
      { t with z := { t.z with pc := t.z.pc - 2, icount := t.z.icount - s.cfg.cyc.blockRepeat } } else t) := by
  have hcfg : u.cfg = s.cfg := ((exec_completes single).runs hsingle).keepsVdpLegal.cfg
  refine ⟨u, hsingle, ?_⟩
  simp only [hagain, repeatIf, htest, hcfg, cycZ_jumpZ]

theorem bc_test_iff (z : Z80) : (z.bc != 0) = true ↔ mk16 z.b z.c ≠ 0 := bne_iff_ne

theorem b_test_iff (z : Z80) : (z.b != 0) = true ↔ z.b ≠ 0 := bne_iff_ne

theorem bc_flagZ_test_iff (z : Z80) : (z.bc != 0 && !flagZ z.f) = true ↔ mk16 z.b z.c ≠ 0 ∧ flagZ z.f = false := by
  rw [Bool.and_eq_true, bc_test_iff, Bool.not_eq_true']

/-! ## The obligations -/

/-- Settles O33: `blockLoad_eq` and `blockCompare_eq` with their flags for one iteration, `exec_repeating` for the repeating forms. -/
theorem blockTransferAndSearch : Obligations.BlockTransferAndSearch := by
  refine ⟨fun s step move search h => ?once, fun s single again => ⟨fun h => ?transfer, fun h => ?search⟩⟩
  case once =>
    obtain ⟨hmove, hsearch⟩ : exec move s = .next (blockLoad step s) ∧ exec search s = .next (blockCompare step s) := by
      simp only [List.mem_pair, Prod.mk.injEq] at h
      rcases h with ⟨rfl, rfl, rfl⟩ | ⟨rfl, rfl, rfl⟩ <;> exact ⟨rfl, rfl⟩
    exact ⟨⟨_, hmove.trans (congrArg Host.Outcome.next (blockLoad_eq step s)), flagsAre_ldiFlags ..⟩,
      ⟨_, hsearch.trans (congrArg Host.Outcome.next (blockCompare_eq step s)), flagsAre_cpiFlags ..⟩⟩
  case transfer =>
    simp only [List.mem_pair, Prod.mk.injEq] at h
    rcases h with ⟨rfl, rfl⟩ | ⟨rfl, rfl⟩ <;>
      exact exec_repeating (fun z => mk16 z.b z.c ≠ 0) rfl rfl bc_test_iff
  case search =>
    simp only [List.mem_pair, Prod.mk.injEq] at h
    rcases h with ⟨rfl, rfl⟩ | ⟨rfl, rfl⟩ <;>
      exact exec_repeating (fun z => mk16 z.b z.c ≠ 0 ∧ flagZ z.f = false) rfl rfl bc_flagZ_test_iff

/-- Settles O34: `blockIn_eq` and `blockOut_eq` with their flags for one iteration, `exec_repeating` for the repeating forms. -/
theorem blockInputAndOutput : Obligations.BlockInputAndOutput := by
  refine ⟨fun s step j input output h => ?once, fun s single again h => ?repeating⟩
  case once =>
    obtain ⟨hinput, houtput⟩ : exec input s = .next (blockIn step j s) ∧ exec output s = .next (blockOut step s) := by
      simp only [List.mem_pair, Prod.mk.injEq] at h
      rcases h with ⟨rfl, rfl, rfl, rfl⟩ | ⟨rfl, rfl, rfl, rfl⟩ <;> exact ⟨rfl, rfl⟩
    exact ⟨⟨_, hinput.trans (congrArg Host.Outcome.next (blockIn_eq step j s)), flagsAre_blockIoFlags ..⟩,
      ⟨_, houtput.trans (congrArg Host.Outcome.next (blockOut_eq step s)), flagsAre_blockIoFlags ..⟩⟩
  case repeating =>
    simp only [List.mem_cons, List.not_mem_nil, or_false, Prod.mk.injEq] at h
    rcases h with ⟨rfl, rfl⟩ | ⟨rfl, rfl⟩ | ⟨rfl, rfl⟩ | ⟨rfl, rfl⟩ <;>
      exact exec_repeating (fun z => z.b ≠ 0) rfl rfl b_test_iff

end Sys2Proof.Machine
end

/-! The illegal-opcode policy over the instructions it reaches (R500, R510, R648, R821, R822): the undefined `ED` entries, the illegal
row of the 6502, and, with `CFG.z80_undoc` false, every undocumented encoding of the Z80. -/
section
namespace Sys2Proof.Machine

variable {s : State} {i : Instr}

/-! ## What the policy does -/

/-- The policy changes the trace of events and nothing else, and that only with traps on (R821, R822). -/
theorem illegalHook_eq (addr : Word) (bytes : List Byte) :
    illegalHook addr bytes s =
      if s.cfg.trapBadOps = true then { s with events := .illegalOp addr bytes :: s.events } else s := rfl

/-- Only an ignored prefix is shorter than the bytes it is decoded from (R502), so elsewhere the hook is given the address of the
first byte of the encoding (R821). -/
theorem illegalZ_eq (hi : i.isPrefix = false) :
    illegalZ i s = illegalHook (s.z.pc - BitVec.ofNat 16 (encode i).length) (encode i) s := by
  simp [illegalZ, Instr.size, hi]

/-- The ignored prefixes are not of the undocumented class: they mean the same in both settings (R500, R502, R511). -/
theorem isPrefix_eq_false_of_isUndocumented (hi : i.isUndocumented = true) : i.isPrefix = false := by
  refine Bool.eq_false_iff.2 fun hp => ?_
  obtain ⟨xy, b, rfl⟩ | ⟨xy, xy', rfl⟩ := isPrefix_iff.1 hp <;> cases hi

/-! ## The encodings it reaches -/

/-- With the undocumented encodings off, one of them is the illegal-opcode policy (R500). -/
theorem undocumented_of_not_z80Undoc (h : s.cfg.z80Undoc = false) (i : Instr) (meaning : State → Result) :
    undocumented i meaning s = .next (illegalZ i s) := if_neg (by simp [h])

/-- Every instruction of the undocumented class is under the switch `CFG.z80_undoc`: one arm per constructor of the class (R500,
R503 to R509). -/
theorem exec_eq_undocumented (hi : i.isUndocumented = true) :
    ∃ meaning : State → Result, ∀ s, exec i s = undocumented i meaning s := by
  unfold Instr.isUndocumented at hi
  split at hi
  on_goal -1 => cases hi -- the catch-all arm: outside the class
  all_goals exact ⟨_, fun _ => rfl⟩

/-- With the undocumented encodings off, each of them only calls the hook, with its bytes and the address they begin at (R500, R821). -/
theorem exec_undocumented_off (h : s.cfg.z80Undoc = false) (hi : i.isUndocumented = true) :
    exec i s = .next (illegalHook (s.z.pc - BitVec.ofNat 16 (encode i).length) (encode i) s) := by
  obtain ⟨meaning, hexec⟩ := exec_eq_undocumented hi
  rw [hexec, undocumented_of_not_z80Undoc h, illegalZ_eq (isPrefix_eq_false_of_isUndocumented hi)]

theorem exec_zIllegalEd (op : Byte) : exec (.zIllegalEd op) s = .next (illegalHook (s.z.pc - 2) [0xED, op] s) :=
  congrArg Host.Outcome.next (illegalZ_eq (i := .zIllegalEd op) rfl)

theorem exec_mIllegal (op : Byte) : exec (.mIllegal op) s = .next (illegalHook (s.m.pc - 1) [op] s) := rfl

/-! ## The obligation -/

/-- Settles O36: `exec_zIllegalEd`, `exec_mIllegal` and `exec_undocumented_off` give the hook in the three cases, `illegalHook_eq` what
it changes. -/
theorem illegalOpcodesOnlyCallTheHook : Obligations.IllegalOpcodesOnlyCallTheHook := by
  intro s
  simp only [← illegalHook_eq]
  exact ⟨fun op => exec_zIllegalEd op, fun op => exec_mIllegal op, fun h _ hi => exec_undocumented_off h hi⟩

end Sys2Proof.Machine
end

/-! The 6502's operands and its loads, logic, sums and compares, stores and read-modify-writes (spec/46_m6502_a.md): what forming an
address does over plain memory, one lemma for each group of instructions over the operands it works on, and each computation as
numbers. -/
section
namespace Sys2Proof.Machine

variable {s : State}

/-! ## Forming an address over plain memory (R545 to R553, R626) -/

theorem zeroPagePointer_plain (h : ∀ a, PlainAt s.cfg a) (b : Byte) :
    zeroPagePointer b s = (mk16 (s.ramByte ((b + 1).setWidth 16)) (s.ramByte (b.setWidth 16)), s) := by
  simp only [zeroPagePointer, memRead_plain s _ (h _), zext8]

theorem indirectTarget_plain (h : ∀ a, PlainAt s.cfg a) (ptr : Word) :
    indirectTarget ptr s = (mk16 (s.ramByte (mk16 (hi8 ptr) (lo8 ptr + 1))) (s.ramByte ptr), s) := by
  simp only [indirectTarget, memRead_plain s _ (h _)]

/-- Settles O37: the direct modes read nothing; `zeroPagePointer_plain` and `indirectTarget_plain` give the pointers of the others. -/
theorem addressingModesFormTheirAddresses : Obligations.AddressingModesFormTheirAddresses := by
  intro s h
  refine ⟨fun _ => rfl, fun _ => rfl, fun _ => rfl, fun _ => rfl, fun _ => rfl, fun _ => rfl, fun b => ?izx, fun b => ?izy,
    fun ptr => ?indirect⟩
  case izx => simp only [addressOf, zeroPagePointer_plain h]
  case izy => simp only [addressOf, zeroPagePointer_plain h, zext8]
  case indirect =>
    simp only [exec, execMJmpInd, indirectTarget_plain h]
    rfl

/-! ## Reading an operand (R544, R555) -/

theorem pageCrossed_iff (base ea : Word) : pageCrossed base ea = true ↔ hi8 base ≠ hi8 ea := bne_iff_ne.trans ne_comm

/-- What the model gives a read-class instruction on an operand form: an immediate is at hand, a memory mode is `readM`. -/
def SourceM.meaning (f : Byte → M6502 → M6502) (s : State) : SourceM → State
  | .imm b => s.onM (f b)
  | .mem mode => readM mode f s

/-- On every operand form a read-class instruction reads its operand, then changes the record with it. -/
theorem SourceM.meaning_eq (f : Byte → M6502 → M6502) (o : SourceM) :
    o.meaning f s = (o.read s).2.onM (f (o.read s).1) := by
  cases o with
  | imm b => rfl
  | mem mode => simp only [SourceM.meaning, readM, SourceM.read, pageCrossed_iff]

/-- Reading an operand changes nothing of the record but the cycles counted. -/
theorem SourceM.read_m (o : SourceM) : ∃ n, (o.read s).2.m = { s.m with cycLine := n } := by
  cases o with
  | imm b => exact ⟨_, rfl⟩
  | mem mode =>
    simp only [SourceM.read, memRead_m]
    split_ifs
    · exact ⟨_, by rw [cycM_m, addressOf_m]⟩
    · exact ⟨_, addressOf_m s mode⟩

/-- The change of the record after a read is known by what it gives for the record before the read, whatever the cycles counted. -/
theorem exec_read_congr {i : Instr} {o : SourceM} {f g : M6502 → M6502} (hexec : exec i s = .next ((o.read s).2.onM f))
    (h : ∀ n, f { s.m with cycLine := n } = g { s.m with cycLine := n }) : exec i s = .next ((o.read s).2.onM g) := by
  obtain ⟨n, hn⟩ := o.read_m (s := s)
  exact hexec.trans (congrArg Host.Outcome.next (State.onM_congr (hn ▸ h n)))

/-! ## What loads, compares and `BIT` give (R541, R556 to R558, R575, R580 to R582) -/

theorem setNZ_eq (v : Byte) (m : M6502) : m.setNZ v = { m with fn := decide (128 ≤ v.toNat), fz := decide (v = 0) } := by
  rw [M6502.setNZ, BitVec.msb_eq_decide, beq_eq_decide]

theorem setNZ_eq_fun :
    M6502.setNZ = fun v m => { m with fn := decide (128 ≤ v.toNat), fz := decide (v = 0) } := funext₂ setNZ_eq

theorem loadA_eq (v : Byte) (m : M6502) :
    m.loadA v = { m with a := v, fn := decide (128 ≤ v.toNat), fz := decide (v = 0) } := by
  rw [M6502.loadA, setNZ_eq]

theorem loadX_eq (v : Byte) (m : M6502) :
    m.loadX v = { m with x := v, fn := decide (128 ≤ v.toNat), fz := decide (v = 0) } := by
  rw [M6502.loadX, setNZ_eq]

theorem loadY_eq (v : Byte) (m : M6502) :
    m.loadY v = { m with y := v, fn := decide (128 ≤ v.toNat), fz := decide (v = 0) } := by
  rw [M6502.loadY, setNZ_eq]

theorem compare_eq (r v : Byte) (m : M6502) :
    m.compare r v = { m with
      fn := decide (128 ≤ (r - v).toNat), fz := decide (r = v), fc := decide (v.toNat ≤ r.toNat) } := by
  simp only [M6502.compare, setNZ_eq, sub_eq_zero]

theorem bitTest_eq (v : Byte) (m : M6502) :
    m.bitTest v = { m with fz := decide (m.a &&& v = 0), fn := v.getLsbD 7, fv := v.getLsbD 6 } := by
  rw [M6502.bitTest, beq_eq_decide]

/-! ## The accumulator and an operand (R556, R572 to R580) -/

/-- What an operation on `A` does to the record, with the operand. -/
def AccOp.act : AccOp → Byte → M6502 → M6502
  | .lda => M6502.loadA
  | .and => M6502.and
  | .eor => M6502.eor
  | .ora => M6502.ora
  | .adc => M6502.adc
  | .sbc => M6502.sbc
  | .cmp => M6502.cmp

theorem exec_accInstr {op : AccOp} {o : SourceM} {i : Instr} (hi : accInstr op o = some i) :
    exec i s = .next ((o.read s).2.onM (op.act (o.read s).1)) := by
  rw [← SourceM.meaning_eq]
  unfold accInstr at hi
  split at hi <;> cases hi <;> rfl

/-- Settles O38: `exec_accInstr` in every mode, `loadA_eq` and `compare_eq` for the record. -/
theorem accumulatorReadsInEveryMode : Obligations.AccumulatorReadsInEveryMode := by
  intro op o i s hi
  refine ⟨?lda, ?and, ?eor, ?ora, ?cmp⟩ <;> rintro rfl
  case lda | and | eor | ora => exact exec_read_congr (exec_accInstr hi) fun _ => loadA_eq _ _
  case cmp => exact exec_read_congr (exec_accInstr hi) fun _ => compare_eq _ _ _

/-! ## Sums and differences, binary and decimal (R576 to R579) -/

/-- The byte a number wraps to, as that number. -/
theorem toNat_ofInt_byte (t : Int) : ((BitVec.ofInt 8 t).toNat : Int) = t % 256 := by
  rw [BitVec.toNat_ofInt]
  omega

/-- A borrow is a carry that is absent. -/
theorem one_sub_toNat (c : Bool) : (1 - c.toNat : Int) = (!c).toNat := by cases c <;> rfl

/-- The binary sum: each flag as a fact about the true sum (R576). -/
theorem adcBinary_eq (a v : Byte) (c : Bool) :
    let t := a.toNat + v.toNat + c.toNat
    let x := a.toInt + v.toInt + (c.toNat : Int)
    adcBinary a v c =
      ⟨BitVec.ofNat 8 t, decide (128 ≤ t % 256), decide (x < -128 ∨ 127 < x), decide (t % 256 = 0), decide (256 ≤ t)⟩ := by
  have hover := (addOverflow_iff a v c).trans overflows8_iff
  simp only [adcBinary, SumResult.mk.injEq, true_and]
  refine ⟨?n, ?v, ?z, rfl⟩ <;> rw [Bool.eq_iff_iff, decide_eq_true_iff]
  case n => exact msb_byte_iff _
  case v => exact hover
  case z => rw [beq_iff_eq, ← BitVec.toNat_inj]; rfl

/-- The binary difference: each flag as a fact about the true difference (R578). -/
theorem sbcBinary_eq (a v : Byte) (c : Bool) :
    let t : Int := a.toNat - v.toNat - (1 - c.toNat)
    let x : Int := a.toInt - v.toInt - (1 - c.toNat)
    sbcBinary a v c =
      ⟨BitVec.ofInt 8 t, decide (128 ≤ t % 256), decide (x < -128 ∨ 127 < x), decide (t % 256 = 0), decide (0 ≤ t)⟩ := by
  have hover := (subOverflow_iff a v !c).trans overflows8_iff
  simp only [sbcBinary, one_sub_toNat, SumResult.mk.injEq, true_and]
  refine ⟨?n, ?v, ?z, trivial⟩ <;> rw [Bool.eq_iff_iff, decide_eq_true_iff]
  case n => rw [msb_byte_iff, ← toNat_ofInt_byte]; omega
  case v => exact hover
  case z => rw [beq_iff_eq, ← BitVec.toNat_inj, ← toNat_ofInt_byte]; exact Int.natCast_eq_zero.symm

theorem adcLow_eq (a v : Byte) (c : Bool) :
    let low := a.toNat % 16 + v.toNat % 16 + c.toNat
    adcLow a v c = if 10 ≤ low then (low + 6) % 16 + 16 else low := by
  simp only [adcLow, loNib_eq]

theorem adcHigh_eq (a v : Byte) (c : Bool) :
    adcHigh a v c = a.toNat / 16 * 16 + v.toNat / 16 * 16 + adcLow a v c := by
  simp only [adcHigh, toNat_and_highDigit, Nat.mul_comm 16]

/-- The decimal sum: the bits and flags of the rule, `Z` from the binary sum (R577). -/
theorem adcDecimal_eq (a v : Byte) (c : Bool) :
    let t := adcHigh a v c
    let t' := if 160 ≤ t then t + 96 else t
    let tb := BitVec.ofNat 8 t
    adcDecimal a v c =
      ⟨BitVec.ofNat 8 t', tb.getLsbD 7, (a ^^^ tb).getLsbD 7 && (v ^^^ tb).getLsbD 7,
        decide ((a.toNat + v.toNat + c.toNat) % 256 = 0), decide (256 ≤ t')⟩ := by
  simp only [adcDecimal, BitVec.msb_eq_getLsbD_last, BitVec.getLsbD_and, beq_eq_decide]

theorem sbcLow_eq (a v : Byte) (c : Bool) :
    let low := ((a.toNat % 16 : Nat) : Int) - (v.toNat % 16 : Nat) - (1 - c.toNat)
    sbcLow a v c = if low < 0 then (low - 6) % 16 - 16 else low := by
  simp only [sbcLow, loNib_eq]

/-- The decimal difference: the bits of the rule, the flags of the binary difference (R579). -/
theorem sbcDecimal_eq (a v : Byte) (c : Bool) :
    let t := ((a.toNat / 16 * 16 : Nat) : Int) - (v.toNat / 16 * 16 : Nat) + sbcLow a v c
    sbcDecimal a v c = { sbcBinary a v c with res := BitVec.ofInt 8 (if t < 0 then t - 96 else t) } := by
  simp only [sbcDecimal, toNat_and_highDigit, Nat.mul_comm 16]

theorem toNat_packed_div {n : Nat} (h : n < 100) : (packed n).toNat / 16 = n / 10 := by
  rw [toNat_packed h]
  omega

/-- The adjustment by 6 stands for the carry between the digits: before the high digit is adjusted the rule has the decimal sum,
whose tens may exceed 9. -/
theorem adcHigh_packed {x y : Nat} (hx : x < 100) (hy : y < 100) (c : Bool) :
    let n := x + y + c.toNat
    adcHigh (packed x) (packed y) c = 16 * (n / 10) + n % 10 := by
  have hc := c.toNat_le
  simp only [adcHigh_eq, adcLow_eq, toNat_packed_div, toNat_packed_mod, hx, hy]
  split_ifs <;> omega

/-- The same of a difference: its tens may be negative. -/
theorem sbcHigh_packed {x y : Nat} (hx : x < 100) (hy : y < 100) (c : Bool) :
    let n : Int := x - y - (1 - c.toNat)
    (((packed x).toNat / 16 * 16 : Nat) : Int) - ((packed y).toNat / 16 * 16 : Nat) + sbcLow (packed x) (packed y) c =
      16 * (n / 10) + n % 10 := by
  have hc := c.toNat_le
  simp only [sbcLow_eq, toNat_packed_div, toNat_packed_mod, hx, hy]
  split_ifs <;> omega

/-- The adjustment by `0x60` takes a carry out of the tens. -/
theorem carry_adjust {n : Nat} (hn : n < 200) :
    let t := 16 * (n / 10) + n % 10
    BitVec.ofNat 8 (if 160 ≤ t then t + 96 else t) = packed (n % 100) := by
  refine BitVec.eq_of_toNat_eq ?_
  rw [toNat_packed (Nat.mod_lt _ (by decide)), BitVec.toNat_ofNat]
  by_cases h : n < 100
  · rw [Nat.mod_eq_of_lt h]
    split_ifs <;> omega
  · rw [Nat.mod_eq_sub_mod (not_lt.1 h), Nat.mod_eq_of_lt (by omega : n - 100 < 100)]
    split_ifs <;> omega

/-- The adjustment by `0x60` takes a borrow into the tens. -/
theorem borrow_adjust {n : Int} {k : Nat} (hk : k < 100) (hnk : n = k ∨ n = k - 100) :
    let t := 16 * (n / 10) + n % 10
    BitVec.ofInt 8 (if t < 0 then t - 96 else t) = packed k := by
  refine BitVec.eq_of_toNat_eq ?_
  rw [← Int.natCast_inj, toNat_ofInt_byte, toNat_packed hk]
  obtain rfl | rfl := hnk <;> split_ifs <;> omega

/-- `ADC` in decimal mode on packed operands (R577). -/
theorem adcDecimal_packed {x y : Nat} (hx : x < 100) (hy : y < 100) (c : Bool) :
    let r := adcDecimal (packed x) (packed y) c
    r.res = packed ((x + y + c.toNat) % 100) ∧ r.c = decide (100 ≤ x + y + c.toNat) := by
  have hc := c.toNat_le
  simp only [adcDecimal_eq, adcHigh_packed hx hy]
  refine ⟨carry_adjust (by omega), decide_eq_decide.2 ?_⟩
  split_ifs <;> omega

/-- `SBC` in decimal mode on packed operands (R579). -/
theorem sbcDecimal_packed {x y : Nat} (hx : x < 100) (hy : y < 100) (c : Bool) :
    let r := sbcDecimal (packed x) (packed y) c
    r.res = packed ((x + 99 + c.toNat - y) % 100) ∧ r.c = decide (y + 1 ≤ x + c.toNat) := by
  have hc := c.toNat_le
  simp only [sbcDecimal_eq, sbcBinary_eq, sbcHigh_packed hx hy]
  refine ⟨borrow_adjust (Nat.mod_lt _ (by decide)) (by omega), decide_eq_decide.2 ?_⟩
  rw [toNat_packed hx, toNat_packed hy]
  omega

theorem exec_adc {o : SourceM} {i : Instr} (hi : accInstr .adc o = some i) :
    let v := (o.read s).1
    exec i s = .next ((o.read s).2.onM
      (M6502.takeSum (if s.m.fd then adcDecimal s.m.a v s.m.fc else adcBinary s.m.a v s.m.fc))) :=
  exec_read_congr (exec_accInstr hi) fun _ => rfl

theorem exec_sbc {o : SourceM} {i : Instr} (hi : accInstr .sbc o = some i) :
    let v := (o.read s).1
    exec i s = .next ((o.read s).2.onM
      (M6502.takeSum (if s.m.fd then sbcDecimal s.m.a v s.m.fc else sbcBinary s.m.a v s.m.fc))) :=
  exec_read_congr (exec_accInstr hi) fun _ => rfl

theorem toNat_eq_ite (c : Bool) : c.toNat = if c = true then 1 else 0 := by rw [Bool.toNat, Bool.cond_eq_ite]

/-- The borrow that goes with a carry, as a number. -/
theorem one_sub_toNat_eq_ite (c : Bool) : (1 - c.toNat : Int) = if c = true then 0 else 1 := by cases c <;> rfl

/-- Settles O39: `exec_adc` and `exec_sbc` in every mode; `adcBinary_eq`, `adcDecimal_eq`, `sbcBinary_eq` and `sbcDecimal_eq` for the
results and flags, `adcDecimal_packed` and `sbcDecimal_packed` for packed operands. -/
theorem adcAndSbcInBothModes : Obligations.AdcAndSbcInBothModes := by
  unfold Obligations.AdcAndSbcInBothModes
  simp only [← toNat_eq_ite, ← one_sub_toNat_eq_ite]
  refine ⟨fun o i s hi => ⟨fun hd => ?addBinary, fun hd => ?addDecimal⟩, fun o i s hi => ?subtract,
    fun s x y hx hy hd ha => ⟨?sum, ?difference⟩⟩
  case addBinary =>
    rw [exec_adc hi, hd, adcBinary_eq]
    rfl
  case addDecimal =>
    rw [exec_adc hi, hd, adcDecimal_eq, adcHigh_eq, adcLow_eq]
    rfl
  case subtract =>
    rw [exec_sbc hi, sbcDecimal_eq, sbcLow_eq, sbcBinary_eq]
    cases s.m.fd <;> rfl
  case sum =>
    refine ⟨_, exec_adc (o := .imm _) rfl, ?_⟩
    rw [ha, hd]
    exact adcDecimal_packed hx hy _
  case difference =>
    refine ⟨_, exec_sbc (o := .imm _) rfl, ?_⟩
    rw [ha, hd]
    exact sbcDecimal_packed hx hy _

/-! ## Index registers and transfers (R557, R558, R562 to R567, R575, R581 to R588) -/

/-- What an index operation does to the record, with the operand. -/
def IndexOp.act : IndexOp → Byte → M6502 → M6502
  | .ldx => M6502.loadX
  | .ldy => M6502.loadY
  | .cpx => M6502.cpx
  | .cpy => M6502.cpy
  | .bit => M6502.bitTest

theorem exec_indexInstr {op : IndexOp} {o : SourceM} {i : Instr} (hi : indexInstr op o = some i) :
    exec i s = .next ((o.read s).2.onM (op.act (o.read s).1)) := by
  rw [← SourceM.meaning_eq]
  unfold indexInstr at hi
  split at hi <;> cases hi <;> rfl

/-- Settles O40: `exec_indexInstr` in every mode and `setNZ_eq`, `compare_eq`, `bitTest_eq` for the record; the transfers are their
rules, with `N` and `Z` as `setNZ_eq` gives them. -/
theorem indexRegisterAndTransferInstructions : Obligations.IndexRegisterAndTransferInstructions := by
  refine ⟨fun op o i s hi => ?operand, fun s => ?registers⟩
  case operand =>
    refine ⟨?ldx, ?ldy, ?cpx, ?cpy, ?bit⟩ <;> rintro rfl
    case ldx => exact exec_read_congr (exec_indexInstr hi) fun _ => loadX_eq _ _
    case ldy => exact exec_read_congr (exec_indexInstr hi) fun _ => loadY_eq _ _
    case cpx | cpy => exact exec_read_congr (exec_indexInstr hi) fun _ => compare_eq _ _ _
    case bit => exact exec_read_congr (exec_indexInstr hi) fun _ => bitTest_eq _ _
  case registers =>
    rw [← setNZ_eq_fun]
    exact ⟨rfl, rfl, rfl, rfl, rfl, rfl, rfl, rfl, rfl, rfl⟩

/-! ## Stores (R555, R559 to R561) -/

theorem storeM_eq (mode : AddrMode) (v : M6502 → Byte) :
    storeM mode v s = memWrite (addressOf mode s).1.2 (v s.m) (addressOf mode s).2 := by
  simp only [storeM, addressOf_m]

theorem exec_storeInstr {r : StoreReg} {mode : AddrMode} {i : Instr} (hi : storeInstr r mode = some i) :
    exec i s = .next (storeM mode r.value s) := by
  unfold storeInstr at hi
  split at hi <;> cases hi <;> rfl

/-! ## Read-modify-writes, and the shifts of `A` (R583, R586, R620 to R624) -/

/-- What a read-modify-write makes of a byte and of the record. -/
def ModifyOp.act : ModifyOp → Byte → M6502 → Byte × M6502
  | .inc => M6502.inc
  | .dec => M6502.dec
  | .asl => M6502.asl
  | .lsr => M6502.lsr
  | .rol => M6502.rol
  | .ror => M6502.ror

/-- A read-modify-write as a read and a write at one address, then one change of the record (R624). -/
theorem modifyM_eq (mode : AddrMode) (op : Byte → M6502 → Byte × M6502) :
    let ad := (addressOf mode s).1.2
    let r := memRead ad (addressOf mode s).2
    modifyM mode op s = (memWrite ad (op r.1 s.m).1 r.2).onM fun m => (op r.1 m).2 := by
  simp only [modifyM, memRead_m, addressOf_m]
  exact State.onM_congr (by rw [memWrite_m, memRead_m, addressOf_m])

theorem exec_modifyInstr {op : ModifyOp} {mode : AddrMode} {i : Instr} (hi : modifyInstr op mode = some i) :
    exec i s = .next (modifyM mode op.act s) := by
  unfold modifyInstr at hi
  split at hi <;> cases hi <;> rfl

theorem exec_modifyAInstr {op : ModifyOp} {i : Instr} (hi : modifyAInstr op = some i) :
    exec i s = .next { s with m := { (op.act s.m.a s.m).2 with a := (op.act s.m.a s.m).1 } } := by
  cases op <;> cases hi <;> rfl

theorem modifyNumbers_fst_lt (op : ModifyOp) (v : Byte) (c : Bool) : (modifyNumbers op v.toNat c.toNat).1 < 256 := by
  have hv := v.isLt
  have hc := c.toNat_le
  cases op <;> simp only [modifyNumbers] <;> omega

/-- A byte and a carry known as numbers, and the record with them: `N` and `Z` follow the byte. -/
theorem shifted_eq {r : Byte × Bool} {n : Nat × Nat} (hr : r.1 = BitVec.ofNat 8 n.1) (hn : n.1 < 256) (hc : r.2.toNat = n.2)
    (m : M6502) :
    m.shifted r = (BitVec.ofNat 8 n.1,
      { m with fn := decide (128 ≤ n.1), fz := decide (n.1 = 0), fc := decide (n.2 = 1) }) := by
  have hnat : (BitVec.ofNat 8 n.1).toNat = n.1 := by rw [BitVec.toNat_ofNat, Nat.mod_eq_of_lt hn]
  have hzero : (BitVec.ofNat 8 n.1 = 0) ↔ n.1 = 0 := by rw [← BitVec.toNat_inj, hnat]; rfl
  have hcarry : r.2 = decide (n.2 = 1) := by simp [← hc]
  simp only [M6502.shifted, setNZ_eq, hr, hnat, hzero, hcarry]

theorem ModifyOp.act_eq (op : ModifyOp) (v : Byte) (m : M6502) :
    let n := modifyNumbers op v.toNat m.fc.toNat
    op.act v m = (BitVec.ofNat 8 n.1,
      { m with fn := decide (128 ≤ n.1), fz := decide (n.1 = 0), fc := decide (n.2 = 1) }) := by
  have hlt := modifyNumbers_fst_lt op v m.fc
  cases op with
  | inc => exact shifted_eq (r := (v + 1, m.fc)) (BitVec.eq_of_toNat_eq (by simp [modifyNumbers])) hlt rfl m
  | dec => exact shifted_eq (r := (v - 1, m.fc)) (BitVec.eq_of_toNat_eq (by simp [modifyNumbers, Nat.add_comm])) hlt rfl m
  | asl => exact shifted_eq (rotate_fst .sla v m.fc) hlt (toNat_rotate_snd .sla v m.fc) m
  | lsr => exact shifted_eq (rotate_fst .srl v m.fc) hlt (toNat_rotate_snd .srl v m.fc) m
  | rol => exact shifted_eq (rotate_fst .rl v m.fc) hlt (toNat_rotate_snd .rl v m.fc) m
  | ror => exact shifted_eq (rotate_fst .rr v m.fc) hlt (toNat_rotate_snd .rr v m.fc) m

/-- Settles O41: `exec_storeInstr`, `exec_modifyInstr` and `exec_modifyAInstr` in every mode, `ModifyOp.act_eq` for the numbers. -/
theorem storesAndReadModifyWritesOfThe6502 : Obligations.StoresAndReadModifyWritesOfThe6502 := by
  refine ⟨fun r mode i s hi => ?store, fun op mode i s hi => ?modify, fun op i s hi => ?shift⟩
  case store => rw [exec_storeInstr hi, storeM_eq]
  case modify =>
    rw [exec_modifyInstr hi, modifyM_eq]
    simp only [ModifyOp.act_eq]
    refine congrArg Host.Outcome.next (State.onM_congr ?_)
    simp only [memWrite_m, memRead_m, addressOf_m]
  case shift =>
    rw [exec_modifyAInstr hi, ModifyOp.act_eq]

end Sys2Proof.Machine
end

/-! The branches, subroutines and flag instructions of the 6502 and its interrupt entry, as accesses on the state before them
(R627 to R647, R845). -/
section
namespace Sys2Proof.Machine

variable {s : State}

/-! ## Branches (R554, R629 to R637) -/

/-- The flag test of a branch. -/
def Branch.test (k : Branch) (m : M6502) : Bool :=
  match k with
  | .bcc => !m.fc
  | .bcs => m.fc
  | .beq => m.fz
  | .bmi => m.fn
  | .bne => !m.fz
  | .bpl => !m.fn
  | .bvc => !m.fv
  | .bvs => m.fv

theorem Branch.taken_iff (k : Branch) (m : M6502) : k.taken m ↔ k.test m = true := by
  cases k <;> simp [Branch.taken, Branch.test]

theorem exec_branch (k : Branch) (b : Byte) : exec (k.instr b) s = .next (branchM (k.test s.m) b s) := by
  cases k <;> rfl

/-- The taken path: its cycles, then the target (R629). -/
theorem branchM_true (b : Byte) :
    let target := s.m.pc + b.signExtend 16
    branchM true b s = { s with m := { s.m with
      pc := target
      cycLine := s.m.cycLine + (s.cfg.cyc.branchTaken + if hi8 target = hi8 s.m.pc then 0 else s.cfg.cyc.branchPage) } } := by
  by_cases h : hi8 (s.m.pc + b.signExtend 16) = hi8 s.m.pc
  · simp [branchM, pageCrossed, sext8, h]
    rfl
  · simp [branchM, pageCrossed, sext8, h]
    rfl

theorem branchM_false (b : Byte) : branchM false b s = s := rfl

/-! ## `JSR` and `RTS` (R627, R628) -/

theorem exec_mJsr (addr : Word) :
    exec (.mJsr addr) s = .next ((memWrite (stackAddr (s.m.s - 1)) (lo8 (s.m.pc - 1))
      (memWrite (stackAddr s.m.s) (hi8 (s.m.pc - 1)) s)).onM fun m => { m with s := s.m.s - 2, pc := addr }) := by
  have h : exec (.mJsr addr) s = .next ((pushM16 (s.m.pc - 1) s).onM fun m => { m with pc := addr }) := rfl
  rw [h, pushM16_eq, onM_onM]
  exact congrArg Host.Outcome.next (State.onM_congr (by simp only [memWrite_m]))

theorem exec_mRts :
    let lo := memRead (stackAddr (s.m.s + 1)) s
    let hi := memRead (stackAddr (s.m.s + 2)) lo.2
    exec .mRts s = .next (hi.2.onM fun m => { m with s := s.m.s + 2, pc := mk16 hi.1 lo.1 + 1 }) := by
  have h : exec .mRts s = .next ((pullM16 s).2.onM fun m => { m with pc := (pullM16 s).1 + 1 }) := rfl
  dsimp only
  rw [h, pullM16_eq, onM_onM]
  exact congrArg Host.Outcome.next (State.onM_congr (by simp only [memRead_m]))

/-- Settles O42: every branch is `branchM` under its flag test (`exec_branch`); `JSR` and `RTS` as accesses on the state before
them; the rest are their rules. -/
theorem branchesSubroutinesAndFlagInstructions : Obligations.BranchesSubroutinesAndFlagInstructions := by
  refine ⟨fun k b s => ?branch, fun s => ?jumps⟩
  case branch =>
    dsimp only
    rw [exec_branch, Branch.taken_iff]
    refine ⟨fun h => ?_, fun h => ?_⟩
    · rw [h, branchM_true]
    · rw [Bool.eq_false_iff.2 h, branchM_false]
  case jumps =>
    exact ⟨fun _ => rfl, fun addr => exec_mJsr addr, exec_mRts, rfl, rfl, rfl, rfl, rfl, rfl, rfl, rfl⟩

/-! ## Interrupt entry (R845, R846) -/

/-- Settles O46: the entry is `vectorM_eq` and the charge. -/
theorem entry6502SavesPcAndStatus : Obligations.Entry6502SavesPcAndStatus := by
  intro s vec
  refine ⟨?_, rfl⟩
  rw [entry6502, vectorM_eq, cycM, onM_onM]
  rfl

end Sys2Proof.Machine
end

/-! What a sample point answers, one lemma per rank of the order of requests (R831, R844, R849, R857). -/
section
namespace Sys2Proof.Machine

variable {s : State}

theorem acceptZ_quit (h : s.ic.quit = true) : acceptZ s = .stop { s with ic := { s.ic with quit := false } } := by
  simp only [acceptZ, h, if_true]

theorem acceptM_quit (h : s.ic.quit = true) : acceptM s = .stop { s with ic := { s.ic with quit := false } } := by
  simp only [acceptM, h, if_true]

theorem accept_quit (h : s.ic.quit = true) : accept s = .stop { s with ic := { s.ic with quit := false } } := by
  cases hc : s.cfg.cpu with
  | z80 => rw [accept_z80 hc, acceptZ_quit h]
  | m6502 => rw [accept_m6502 hc, acceptM_quit h]

theorem acceptZ_nmi (hq : s.ic.quit = false) (h : s.ic.nmi = true) :
    acceptZ s = .ok (nmiEntry { s with ic := { s.ic with nmi := false } }) := by
  simp [acceptZ, hq, h]

theorem acceptM_nmi (hq : s.ic.quit = false) (h : s.ic.nmi = true) :
    acceptM s = .ok (entry6502 0xFFFA { s with ic := { s.ic with nmi := false } }) := by
  simp [acceptM, hq, h]

/-- With neither a stop nor a non-maskable request, the Z80 takes an enabled maskable one (R831). -/
theorem acceptZ_int {v : Byte} (hq : s.ic.quit = false) (hn : s.ic.nmi = false) (hi : s.ic.int = some v) :
    acceptZ s = if s.z.iff1 = true then intEntry v { s with ic := { s.ic with int := none } } else .ok s := by
  simp [acceptZ, hq, hn, hi]

theorem acceptM_int {v : Byte} (hq : s.ic.quit = false) (hn : s.ic.nmi = false) (hi : s.ic.int = some v) :
    acceptM s = if s.m.fi = true then .ok s else .ok (entry6502 0xFFFE { s with ic := { s.ic with int := none } }) := by
  simp [acceptM, hq, hn, hi]

theorem acceptZ_none (hq : s.ic.quit = false) (hn : s.ic.nmi = false) (hi : s.ic.int = none) : acceptZ s = .ok s := by
  simp [acceptZ, hq, hn, hi]

theorem acceptM_none (hq : s.ic.quit = false) (hn : s.ic.nmi = false) (hi : s.ic.int = none) : acceptM s = .ok s := by
  simp [acceptM, hq, hn, hi]

theorem accept_none (hq : s.ic.quit = false) (hn : s.ic.nmi = false) (hi : s.ic.int = none) : accept s = .ok s := by
  cases hc : s.cfg.cpu with
  | z80 => rw [accept_z80 hc, acceptZ_none hq hn hi]
  | m6502 => rw [accept_m6502 hc, acceptM_none hq hn hi]

theorem routeIrq_true (s : State) : routeIrq (true, s) = inject (vdpRequest s.cfg) s := rfl

theorem vdpRequest_nmi {cfg : Config} (h : cfg.vdpIrqClass = .nmi) : vdpRequest cfg = .nmi := by
  rw [vdpRequest, h]

theorem vdpRequest_int {cfg : Config} (h : cfg.vdpIrqClass = .int) : vdpRequest cfg = .int cfg.vdpIrqVector := by
  rw [vdpRequest, h]

/-- Settles O44: a request writes its own latch, and one lemma per rank of the order. -/
theorem samplePointsTakeOneRequestInOrder : Obligations.SamplePointsTakeOneRequestInOrder := by
  refine ⟨fun s => ?latch, fun s => ?sample⟩
  case latch =>
    refine ⟨rfl, rfl, fun _ => rfl, rfl, rfl, fun h => ?_, fun h => ?_⟩
    · rw [routeIrq_true, vdpRequest_nmi h]
      rfl
    · rw [routeIrq_true, vdpRequest_int h]
      rfl
  case sample =>
    refine ⟨accept_quit, fun hq hn => ⟨fun hc => ?_, fun hc => ?_⟩, fun ⟨hq, hn⟩ v hi => ⟨fun hc hen => ?_, fun hc hen => ?_,
      fun hc hdis => ?_, fun hc hdis => ?_⟩, fun ⟨hq, hn⟩ hi => accept_none hq hn hi⟩
    · rw [accept_z80 hc, acceptZ_nmi hq hn]
    · rw [accept_m6502 hc, acceptM_nmi hq hn]
    · rw [accept_z80 hc, acceptZ_int hq hn hi, if_pos hen]
    · rw [accept_m6502 hc, acceptM_int hq hn hi, hen]
      rfl
    · rw [accept_z80 hc, acceptZ_int hq hn hi, hdis]
      rfl
    · rw [accept_m6502 hc, acceptM_int hq hn hi, if_pos hdis]

end Sys2Proof.Machine
end

/-! A register write of the VDP: legal bits, derived fields, the request; screen mode and tables as numbers (R690 to R706). -/
section
namespace Sys2Proof.Machine

variable {s : State} {v : Vdp} {cfg : Config}

/-! ## Register writes (R690 to R694, R704 to R706) -/

theorem regMask_eq (n : BitVec 3) : regMask n = [0x03, 0xFB, 0x0F, 0xFF, 0x07, 0x7F, 0x07, 0xFF][n.toNat]?.getD 0 := by
  rcases regCode_cases n with rfl | rfl | rfl | rfl | rfl | rfl | rfl | rfl <;> rfl

/-- A register read after a write (R693). -/
theorem regs_get_set (r : VdpRegs) (n k : BitVec 3) (b : Byte) : (r.set n b).get k = if k = n then b else r.get k := by
  rcases regCode_cases n with rfl | rfl | rfl | rfl | rfl | rfl | rfl | rfl <;>
    rcases regCode_cases k with rfl | rfl | rfl | rfl | rfl | rfl | rfl | rfl <;> rfl

/-- A write of `VR7` gives the colour pair and recomputes nothing (R705). -/
theorem storeRegister_seven (b : Byte) :
    let w := Vdp.storeRegister cfg 7 b v
    w.mode = v.mode ∧ w.tab = v.tab ∧ w.fg = hiPixel (b &&& regMask 7) ∧ w.bg = loPixel (b &&& regMask 7) :=
  ⟨rfl, rfl, rfl, rfl⟩

/-- A write of `VR0` to `VR6` recomputes mode and tables and leaves the colour pair (R694). -/
theorem storeRegister_refresh {n : BitVec 3} (h : n ≠ 7) (b : Byte) :
    let w := Vdp.storeRegister cfg n b v
    w.mode = modeOf cfg.modeDecode w.regs ∧ w.tab = tablesOf w.mode w.regs ∧ w.fg = v.fg ∧ w.bg = v.bg := by
  simp only [Vdp.storeRegister, if_neg h]
  exact ⟨rfl, rfl, rfl, rfl⟩

theorem writeRegister_vdp (index value : Byte) :
    (writeRegister index value s).2.vdp = Vdp.storeRegister s.cfg (index.extractLsb' 0 3) value s.vdp := by
  dsimp only [writeRegister]
  split <;> rfl

/-- What a register write leaves alone, and the backdrop push of `VR7` (R690, R706). -/
theorem writeRegister_keeps (index value : Byte) :
    let t := (writeRegister index value s).2
    t = { s with
      vdp := { s.vdp with regs := t.vdp.regs, mode := t.vdp.mode, tab := t.vdp.tab, fg := t.vdp.fg, bg := t.vdp.bg }
      events := if index.extractLsb' 0 3 = 7 then .backdrop t.vdp.bg :: s.events else s.events } := by
  by_cases h : index.extractLsb' 0 3 = 7
  · simp only [writeRegister, Vdp.storeRegister, if_pos h]
    rfl
  · simp only [writeRegister, Vdp.storeRegister, if_neg h]
    rfl

theorem writeRegister_fst (index value : Byte) :
    (writeRegister index value s).1 = true ↔
      ¬s.vdp.intLevel = true ∧ (Vdp.storeRegister s.cfg (index.extractLsb' 0 3) value s.vdp).intLevel = true := by
  simp [writeRegister]

theorem intLevel_iff : v.intLevel = true ↔ v.regs.r1.getLsbD 5 = true ∧ v.vstat.getLsbD 7 = true := by
  simp [Vdp.intLevel, VdpRegs.ie]

theorem toNat_hiPixel (b : Byte) : (hiPixel b).toNat = b.toNat / 16 := by
  have := b.isLt
  simp only [hiPixel, BitVec.extractLsb'_toNat, Nat.shiftRight_eq_div_pow]
  omega

theorem toNat_loPixel (b : Byte) : (loPixel b).toNat = b.toNat % 16 := by
  simp [loPixel, BitVec.extractLsb'_toNat]

/-! ## Screen mode and tables (R696 to R703) -/

theorem modeOf_eq (k : ModeTable) (r : VdpRegs) :
    some (modeOf k r) = [k.k0, k.k1, k.k2, k.k3, k.k4, k.k5, k.k6, k.k7][
      4 * (r.r1.getLsbD 4).toNat + 2 * (r.r1.getLsbD 3).toNat + (r.r0.getLsbD 1).toNat]? := by
  rw [modeOf, VdpRegs.m1, VdpRegs.m2, VdpRegs.m3]
  cases r.r1.getLsbD 4 <;> cases r.r1.getLsbD 3 <;> cases r.r0.getLsbD 1 <;> rfl

/-- Bytes of video memory: 16 KiB or 4 KiB (R697). -/
def vramSize (r : VdpRegs) : Nat := if r.r1.getLsbD 7 then 16384 else 4096

theorem vramSize_eq_two_pow (r : VdpRegs) : ∃ k ≤ 14, vramSize r = 2 ^ k := by
  unfold vramSize
  split
  · exact ⟨14, by decide, rfl⟩
  · exact ⟨12, by decide, rfl⟩

theorem toNat_vramMaskOf (r : VdpRegs) : (vramMaskOf r).toNat = vramSize r - 1 := by
  unfold vramMaskOf vramSize VdpRegs.vram16k
  split <;> rfl

/-- An address under the mask is its rest by the size (R141). -/
theorem toNat_and_vramMaskOf (a : VAddr) (r : VdpRegs) : (a &&& vramMaskOf r).toNat = a.toNat % vramSize r := by
  obtain ⟨k, -, hk⟩ := vramSize_eq_two_pow r
  rw [BitVec.toNat_and, toNat_vramMaskOf, hk, Nat.and_two_pow_sub_one_eq_mod]

theorem toNat_tableField (b m : Byte) (n : Nat) : (tableField b m n).toNat = (b &&& m).toNat * 2 ^ n % 16384 := by
  have hlt := (b &&& m).isLt
  rw [tableField, BitVec.toNat_shiftLeft, BitVec.toNat_setWidth, Nat.shiftLeft_eq, Nat.mod_eq_of_lt (a := (b &&& m).toNat)]
  omega

/-- The base address of a table (R698 to R702). -/
theorem toNat_tableBase (b m : Byte) (n : Nat) (r : VdpRegs) :
    (tableField b m n &&& vramMaskOf r).toNat = (b &&& m).toNat * 2 ^ n % vramSize r := by
  obtain ⟨k, hk, hsize⟩ := vramSize_eq_two_pow r
  rw [toNat_and_vramMaskOf, toNat_tableField, hsize]
  exact Nat.mod_mod_of_dvd _ (pow_dvd_pow 2 hk)

section Masks
variable (b : Byte)

theorem toNat_and_0x03 : (b &&& 0x03).toNat = b.toNat % 4 := Nat.and_two_pow_sub_one_eq_mod b.toNat 2
theorem toNat_and_0x07 : (b &&& 0x07).toNat = b.toNat % 8 := Nat.and_two_pow_sub_one_eq_mod b.toNat 3
theorem toNat_and_0x0F : (b &&& 0x0F).toNat = b.toNat % 16 := Nat.and_two_pow_sub_one_eq_mod b.toNat 4
theorem toNat_and_0x7F : (b &&& 0x7F).toNat = b.toNat % 128 := Nat.and_two_pow_sub_one_eq_mod b.toNat 7
theorem toNat_and_0xFF : (b &&& 0xFF).toNat = b.toNat :=
  (Nat.and_two_pow_sub_one_eq_mod b.toNat 8).trans (Nat.mod_eq_of_lt b.isLt)
theorem toNat_and_0x04 : (b &&& 0x04).toNat = b.toNat / 4 % 2 * 4 := by decide +revert
theorem toNat_and_0x80 : (b &&& 0x80).toNat = b.toNat / 128 * 128 := by decide +revert

end Masks

/-- A mask of a table: the bits of the register, then ones (R699, R700). -/
theorem toNat_tableField_or (b m : Byte) {n : Nat} (ones : VAddr) (hones : ones.toNat = 2 ^ n - 1)
    (h : (b &&& m).toNat * 2 ^ n < 16384) : (tableField b m n ||| ones).toNat = (b &&& m).toNat * 2 ^ n + (2 ^ n - 1) := by
  rw [BitVec.toNat_or, toNat_tableField, hones, Nat.mod_eq_of_lt h, Nat.mul_comm,
    ← Nat.two_pow_add_eq_or_of_lt (Nat.sub_lt (Nat.two_pow_pos n) Nat.one_pos)]

/-- Settles O49: `writeRegister_keeps` with what `storeRegister` gives for `VR7` and for the others, `modeOf_eq`, and
`toNat_tableBase` for the tables. -/
theorem registerWritesStoreLegalBitsAndRefresh : Obligations.RegisterWritesStoreLegalBitsAndRefresh := by
  refine ⟨fun index value s => ?write, modeOf_eq, ⟨rfl, rfl, rfl, rfl⟩, fun mode r => ?tables⟩
  case write =>
    dsimp only
    rw [← regMask_eq, writeRegister_fst, ← intLevel_iff, ← writeRegister_vdp]
    refine ⟨?same, fun k hk => ?other, fun h => ?coherent, fun h7 => ?seven, fun h7 => ?refresh,
      and_congr_right fun _ => intLevel_iff, writeRegister_keeps index value⟩
    all_goals rw [writeRegister_vdp]
    case same => rw [storeRegister_regs, regs_get_set, if_pos rfl]
    case other => rw [storeRegister_regs, regs_get_set, if_neg hk]
    case coherent => exact storeRegister_coherent h _ _
    case seven =>
      rw [h7]
      obtain ⟨hmode, htab, hfg, hbg⟩ := storeRegister_seven (cfg := s.cfg) (v := s.vdp) value
      exact ⟨hmode, htab, hfg ▸ toNat_hiPixel _, hbg ▸ toNat_loPixel _⟩
    case refresh => exact storeRegister_refresh h7 value
  case tables =>
    dsimp only
    refine ⟨toNat_vramMaskOf r, ?_, ?_, ?_, fun hg => ?_, fun hg => ?_, rfl, rfl⟩
    · exact (toNat_tableBase _ _ _ r).trans (by rw [toNat_and_0x0F]; rfl)
    · exact (toNat_tableBase _ _ _ r).trans (by rw [toNat_and_0x7F]; rfl)
    · exact (toNat_tableBase _ _ _ r).trans (by rw [toNat_and_0x07]; rfl)
    · simp only [tablesOf, if_neg hg, toNat_tableBase, toNat_and_0xFF, toNat_and_0x07]
      exact ⟨rfl, rfl, rfl, rfl⟩
    · have hcol := toNat_tableField_or r.r3 0x7F (n := 6) 0x3F rfl (by rw [toNat_and_0x7F]; omega)
      have hpat := toNat_tableField_or r.r4 0x03 (n := 11) 0x07FF rfl (by rw [toNat_and_0x03]; omega)
      rw [toNat_and_0x7F] at hcol
      rw [toNat_and_0x03] at hpat
      simp only [tablesOf, if_pos hg, toNat_tableBase, toNat_and_0x80, toNat_and_0x04]
      exact ⟨congrArg (· % vramSize r) (by omega), congrArg (· % vramSize r) (by omega), hcol, hpat⟩

end Sys2Proof.Machine
end

/-! The ports of the VDP, command by command, and a scanline, kind by kind (R710 to R718, R752 to R756). -/
section
namespace Sys2Proof.Machine

variable {s : State} {v : Vdp}

/-! ## The control port (R710 to R714) -/

/-- The address of a two-byte command, as a number (R210). -/
theorem controlAddress_eq (b low : Byte) :
    controlAddress b low = BitVec.ofNat 14 (b.toNat % 64 * 256 + low.toNat) := by
  apply BitVec.eq_of_toNat_eq
  have hlow := low.isLt
  rw [controlAddress, toNat_append_eq, BitVec.extractLsb'_toNat, BitVec.toNat_ofNat, Nat.shiftRight_zero]
  omega

/-- The top two bits of the second byte say which command it is (R711). -/
theorem toNat_commandCode (b : Byte) : (b.extractLsb' 6 2).toNat = b.toNat / 64 := by
  have hb := b.isLt
  rw [BitVec.extractLsb'_toNat, Nat.shiftRight_eq_div_pow]
  omega

/-- A read-address command sets the address and reads ahead (R712). -/
theorem writeControlPort_read (hs : s.vdp.flipflop = .expectHigh) {b : Byte} (h : b.toNat < 64) :
    writeControlPort b s = (false, s.onVdp fun v =>
      Vdp.prefetch { v with flipflop := .expectLowOrData, vaddr := controlAddress b v.ctrlLow }) := by
  have hcode : (b.extractLsb' 6 2).toNat = 0 := by rw [toNat_commandCode]; omega
  simp only [writeControlPort, hs, hcode]
  rfl

/-- A write-address command sets the address (R713). -/
theorem writeControlPort_write (hs : s.vdp.flipflop = .expectHigh) {b : Byte} (h64 : 64 ≤ b.toNat) (h128 : b.toNat < 128) :
    writeControlPort b s = (false, s.onVdp fun v =>
      { v with flipflop := .expectLowOrData, vaddr := controlAddress b v.ctrlLow }) := by
  have hcode : (b.extractLsb' 6 2).toNat = 1 := by rw [toNat_commandCode]; omega
  simp only [writeControlPort, hs, hcode]
  rfl

/-- Both codes with the top bit set write a register (R714). -/
theorem writeControlPort_register (hs : s.vdp.flipflop = .expectHigh) {b : Byte} (h : 128 ≤ b.toNat) :
    writeControlPort b s =
      writeRegister (b &&& 7) s.vdp.ctrlLow (s.onVdp fun v => { v with flipflop := .expectLowOrData }) := by
  have hcode := toNat_commandCode b
  simp only [writeControlPort, hs]
  split
  · omega
  · omega
  · rfl

/-- Settles O50: one lemma per range of the second byte, and `controlAddress_eq`. -/
theorem controlPortTakesTwoByteCommands : Obligations.ControlPortTakesTwoByteCommands := by
  intro b s
  dsimp only
  rw [← controlAddress_eq]
  refine ⟨fun hs => ?_, fun hs => ⟨fun h => ?_, fun h64 h128 => ?_, fun h => ?_⟩⟩
  · simp only [writeControlPort, hs]
    rfl
  · rw [writeControlPort_read hs h]
    rfl
  · rw [writeControlPort_write hs h64 h128]
    rfl
  · rw [writeControlPort_register hs h]
    rfl

/-! ## The data port and the status port (R716 to R718) -/

/-- Settles O51: each access is its rule, with the read-ahead of `prefetch` and the store of `vw`. -/
theorem dataAndStatusPortAccesses : Obligations.DataAndStatusPortAccesses := by
  intro b s
  dsimp only [readDataPort, writeDataPort, readControlPort, Vdp.prefetch]
  exact ⟨rfl, rfl, rfl⟩

/-! ## Scanlines (R752 to R756) -/

/-- The status byte after the boundary: `F` set, `C` where it was or where there is a hit, the rest as it was (R754). -/
theorem vblank_vstat_bits (v : Vdp) :
    let st := v.vblank.vstat
    st.getLsbD 7 = true ∧ st.getLsbD 6 = v.vstat.getLsbD 6 ∧
      (st.getLsbD 5 = true ↔ v.vstat.getLsbD 5 = true ∨ v.mode ≠ .text ∧ checkCollision v = true) ∧
      st &&& 0x1F = v.vstat &&& 0x1F := by
  dsimp only [Vdp.vblank]
  split
  next hit => simp [and_eq_and_iff, hit]
  next hit => simp [and_eq_and_iff, hit]

/-- The level rises at the boundary when requests are enabled and `F` was clear (R69, R754). -/
theorem vblank_rises (v : Vdp) :
    (!v.intLevel && v.vblank.intLevel) = true ↔ v.regs.r1.getLsbD 5 = true ∧ v.vstat.getLsbD 7 = false := by
  have hset : v.vblank.intLevel = true ↔ v.regs.r1.getLsbD 5 = true :=
    intLevel_iff.trans (and_iff_left (vblank_vstat_bits v).1)
  rw [Bool.and_eq_true, hset, Bool.not_eq_true', ← Bool.not_eq_true, intLevel_iff]
  grind

/-- An active line renders its row (R753). -/
theorem stepScanline_active (h : s.cfg.startLine ≤ s.vdp.curline ∧ s.vdp.curline < s.cfg.endLine) :
    stepScanline s = (false, s.onVdp fun v =>
      { renderLine s.cfg (v.curline - s.cfg.startLine) v with curline := nextLine s.cfg v.curline }) := by
  simp only [stepScanline, if_pos h]
  rfl

/-- The line after the window is the vertical-blank boundary (R754, R756). -/
theorem stepScanline_boundary (h : s.vdp.curline = s.cfg.endLine) :
    stepScanline s = (!s.vdp.intLevel && s.vdp.vblank.intLevel,
      (s.onVdp fun v => { v.vblank with curline := nextLine s.cfg v.curline }).emit (.frameReady s.vdp.fb)) := by
  have hwindow : ¬(s.cfg.startLine ≤ s.vdp.curline ∧ s.vdp.curline < s.cfg.endLine) := by omega
  simp only [stepScanline, if_neg hwindow, if_pos h]
  rfl

/-- Any other line only counts (R755). -/
theorem stepScanline_other (hwindow : ¬(s.cfg.startLine ≤ s.vdp.curline ∧ s.vdp.curline < s.cfg.endLine))
    (h : s.vdp.curline ≠ s.cfg.endLine) :
    stepScanline s = (false, s.onVdp fun v => { v with curline := nextLine s.cfg v.curline }) := by
  simp only [stepScanline, if_neg hwindow, if_neg h]
  rfl

/-- Settles O53: the three kinds of line, `vblank_vstat_bits` and `vblank_rises` for the boundary. -/
theorem scanlineStepsRenderOrReachTheBoundary : Obligations.ScanlineStepsRenderOrReachTheBoundary := by
  intro s
  refine ⟨fun h1 h2 => stepScanline_active ⟨h1, h2⟩, fun h => ?boundary, stepScanline_other⟩
  case boundary =>
    obtain ⟨h7, h6, h5, hlow⟩ := vblank_vstat_bits s.vdp
    rw [stepScanline_boundary h]
    exact ⟨s.vdp.vblank.vstat, h7, h6, h5, hlow, rfl, vblank_rises s.vdp⟩

end Sys2Proof.Machine
end

/-! The pixels of a rendered line: sprites drawn highest index first over the background, and the background by cells (R757 to
R765, R775, R778). -/
section
namespace Sys2Proof.Machine

variable {v : Vdp} {cfg : Config} {y : Nat}

/-! ## Drawing the sprites of a line (R775, R778) -/

/-- Whether sprite `i` of a mask shows at column `x`: in the mask, not transparent, a set pattern bit there (R775, R778). -/
def showsAt (v : Vdp) (y x : Nat) (mask : BitVec 32) (i : Nat) : Bool :=
  mask.getLsbD i && decide (v.spriteColour i ≠ 0) && spriteLit v i y x

/-- A pixel after a sprite is drawn, in a row drawn from column `x₀` on. -/
theorem paintSprite_getElem? (i x₀ x : Nat) (row : List Pixel) :
    (paintSprite v i y x₀ row)[x]? =
      row[x]?.map fun p => if v.spriteColour i ≠ 0 ∧ spriteLit v i y (x₀ + x) = true then v.spriteColour i else p := by
  induction row generalizing x₀ x with
  | nil => rfl
  | cons p rest ih =>
    cases x with
    | zero => rfl
    | succ x =>
      rw [paintSprite, List.getElem?_cons_succ, List.getElem?_cons_succ, ih, Nat.add_right_comm, Nat.add_assoc]

/-- The row after the turn of sprite `k`: its colour where it shows, else as before. -/
theorem drawn_getElem? (mask : BitVec 32) (k x : Nat) (row : List Pixel) :
    (if mask.getLsbD k = true then paintSprite v k y 0 row else row)[x]? =
      row[x]?.map fun p => if showsAt v y x mask k = true then v.spriteColour k else p := by
  cases h : mask.getLsbD k <;> simp [paintSprite_getElem?, showsAt, h]

/-- Where no sprite shows, the row stays. -/
theorem compositeLine_of_none {mask : BitVec 32} {k x : Nat} {row : List Pixel}
    (h : ∀ i, i < k → showsAt v y x mask i = false) : (compositeLine v y mask k row)[x]? = row[x]? := by
  induction k generalizing row with
  | zero => rfl
  | succ k ih =>
    rw [compositeLine, ih fun i hi => h i (Nat.lt_succ_of_lt hi), drawn_getElem?, h k k.lt_succ_self]
    simp

/-- The lowest sprite that shows is drawn last, so over the others (R775). -/
theorem compositeLine_of_lowest {mask : BitVec 32} {k i x : Nat} {row : List Pixel} (hi : i < k) (hx : x < row.length)
    (hshows : showsAt v y x mask i = true) (hlow : ∀ j, j < i → showsAt v y x mask j = false) :
    (compositeLine v y mask k row)[x]? = some (v.spriteColour i) := by
  induction k generalizing row with
  | zero => exact absurd hi (Nat.not_lt_zero i)
  | succ k ih =>
    rw [compositeLine]
    obtain hlt | rfl := Nat.lt_succ_iff_lt_or_eq.1 hi
    · refine ih hlt ?_
      split
      · rwa [paintSprite_length]
      · exact hx
    · rw [compositeLine_of_none hlow, drawn_getElem?, hshows, List.getElem?_eq_getElem hx]
      rfl

/-- Settles O57: what stands in a column after the sprites are drawn, highest index first. -/
theorem lowestSpriteShowsOnTop : Obligations.LowestSpriteShowsOnTop := by
  intro v y x mask row hrow hx
  exact ⟨fun i hi hshows hlow => compositeLine_of_lowest hi (hrow ▸ hx) hshows hlow, compositeLine_of_none⟩

/-! ## Rendering a line (R753, R757, R758, R765) -/

theorem pixelRow_getElem? {f : Nat → Pixel} {x : Nat} (hx : x < 256) : (pixelRow f)[x]? = some (f x) := by
  simp [pixelRow, hx]

/-- The mask of a line: that of the scan, and none in text mode (R758, R765). -/
def lineMask (cfg : Config) (y : Nat) (v : Vdp) : BitVec 32 := if v.mode = .text then 0 else (scanLine cfg y v).1

/-- The row a line is rendered to (R757, R765). -/
def renderedRow (cfg : Config) (y : Nat) (v : Vdp) : List Pixel :=
  if v.regs.display = true then compositeLine v y (lineMask cfg y v) 32 (pixelRow (backgroundPixel v y))
  else pixelRow fun _ => v.bg

/-- Rendering puts the row in its place and takes the status byte of the scan (R757, R758). -/
theorem renderLine_eq : renderLine cfg y v = { v with
    fb := v.fb.set y (renderedRow cfg y v)
    vstat := if v.mode = .text then v.vstat else (scanLine cfg y v).2.vstat } := by
  by_cases h : v.mode = .text
  · simp only [renderLine, renderedRow, lineMask, if_pos h]
  · simp only [renderLine, renderedRow, lineMask, if_neg h]
    rfl

theorem renderedRow_length : (renderedRow cfg y v).length = 256 := by
  unfold renderedRow
  split
  · rw [compositeLine_length, pixelRow_length]
  · exact pixelRow_length _

/-- With nothing in the mask the background shows. -/
theorem compositeLine_zero (k x : Nat) (row : List Pixel) : (compositeLine v y 0 k row)[x]? = row[x]? :=
  compositeLine_of_none fun i _ => by simp [showsAt]

/-- Settles O54: `renderLine_eq` for what is written, and the pixels of `renderedRow` by `compositeLine_of_lowest` and
`compositeLine_of_none`. -/
theorem renderingWritesExactlyOneRow : Obligations.RenderingWritesExactlyOneRow := by
  intro cfg y v hy hfb
  have hrow (x : Nat) : ((v.fb.set y (renderedRow cfg y v))[y]?.bind fun row => row[x]?) = (renderedRow cfg y v)[x]? := by
    rw [List.getElem?_set_self (hfb.1.symm ▸ hy)]
    rfl
  dsimp only
  rw [renderLine_eq]
  refine ⟨hfb.set y renderedRow_length, fun k hk => List.getElem?_set_ne hk.symm, rfl, fun h => if_pos h, fun h => if_neg h,
    fun x hx => ?pixel⟩
  case pixel =>
    have hlen : x < (renderedRow cfg y v).length := renderedRow_length.symm ▸ hx
    have hback := pixelRow_getElem? (f := backgroundPixel v y) hx
    refine ⟨(renderedRow cfg y v)[x], by rw [hrow, List.getElem?_eq_getElem hlen], fun hd => ?_, fun hd hm => ?_,
      fun hd hm => ⟨fun i hi hshows hlow => ?_, fun h => ?_⟩⟩
    all_goals
      apply Option.some.inj
      rw [← List.getElem?_eq_getElem hlen, renderedRow]
    · rw [hd]
      exact pixelRow_getElem? hx
    · rw [if_pos hd, lineMask, if_pos hm, compositeLine_zero, hback]
    · rw [if_pos hd, lineMask, if_neg hm]
      exact compositeLine_of_lowest hi (by rwa [pixelRow_length]) hshows hlow
    · rw [if_pos hd, lineMask, if_neg hm, ← hback]
      exact compositeLine_of_none h

/-! ## The background (R760 to R763) -/

/-- Settles O55: the cell and the pixel of a column, in each mode. -/
theorem backgroundPixelsOfTheFourModes : Obligations.BackgroundPixelsOfTheFourModes := by
  intro v y c i _
  refine ⟨fun hm => ⟨fun hc hi => ?text, fun hi => ?border⟩,
    fun hc hi => ⟨fun hm => ?graphics1, fun hm => ?graphics2, fun hm => ?multicolor⟩⟩
  all_goals simp only [backgroundPixel, hm]
  case text =>
    have hinside : ¬(8 + 6 * c + i < 8 ∨ 248 ≤ 8 + 6 * c + i) := by omega
    have hcell : (8 + 6 * c + i - 8) / 6 = c := by omega
    have hpixel : (8 + 6 * c + i - 8) % 6 = i := by omega
    simp only [textPixel, if_neg hinside, hcell, hpixel]
    rfl
  case border => exact ⟨if_pos (by omega), if_pos (by omega)⟩
  all_goals
    have hcell : (8 * c + i) / 8 = c := by omega
    have hpixel : (8 * c + i) % 8 = i := by omega
  case graphics1 =>
    simp only [graphics1Pixel, hcell, hpixel]
    rfl
  case graphics2 =>
    simp only [graphics2Pixel, hcell, hpixel]
    rfl
  case multicolor =>
    simp only [multicolorPixel, hcell, hpixel]
    rfl

end Sys2Proof.Machine
end

/-! Where a sprite's pixels lie (R771, R772, R775 to R777), and when two sprites collide (R780, R781). -/
section
namespace Sys2Proof.Machine

variable {v : Vdp} {i j x y : Nat}

/-! ## The pixels of a sprite -/

/-- The side of a sprite pixel on screen: 2 when magnified, else 1 (R771). -/
def spriteZoom (r : VdpRegs) : Nat := if r.mag = true then 2 else 1

theorem two_pow_magShift (r : VdpRegs) : 2 ^ r.magShift = spriteZoom r := by
  unfold VdpRegs.magShift spriteZoom
  split <;> rfl

theorem zoom_pos (r : VdpRegs) : 0 < spriteZoom r := by
  unfold spriteZoom
  split <;> decide

theorem spriteHeight_eq (r : VdpRegs) : r.spriteHeight = r.spriteSide * spriteZoom r := by
  rw [VdpRegs.spriteHeight, two_pow_magShift]

/-- A sprite lights a position by its distance from the sprite's corner: inside the square, and a set bit there (R775 to R777). -/
theorem spriteLit_iff : spriteLit v i y x = true ↔
    ∃ d e : Nat, (y : Int) = spriteTop (v.spriteAttr i 0) + d ∧ (x : Int) = v.spriteLeft i + e ∧
      d < v.regs.spriteHeight ∧ e < v.regs.spriteHeight ∧
      v.spriteBit (v.spriteAttr i 2) (d / spriteZoom v.regs) (e / spriteZoom v.regs) = true := by
  simp only [spriteLit, Bool.and_eq_true, decide_eq_true_eq, two_pow_magShift]
  constructor
  · rintro ⟨⟨⟨⟨hd, hd'⟩, he⟩, he'⟩, hbit⟩
    exact ⟨_, _, by omega, by omega, by omega, by omega, hbit⟩
  · rintro ⟨d, e, hy, hx, hd, he, hbit⟩
    have hdist : (y : Int) - spriteTop (v.spriteAttr i 0) = d := by omega
    have hdist' : (x : Int) - v.spriteLeft i = e := by omega
    rw [hdist, hdist']
    exact ⟨⟨⟨⟨by omega, by omega⟩, by omega⟩, by omega⟩, hbit⟩

/-- A distance inside the square is a pattern position and a place in its zoomed pixel. -/
theorem lt_mul_zoom_iff {d side zoom : Nat} (hzoom : 0 < zoom) :
    d < side * zoom ↔ ∃ r m, r < side ∧ m < zoom ∧ d = r * zoom + m := by
  constructor
  · intro hd
    have hr : d / zoom < side := Nat.div_lt_of_lt_mul (Nat.mul_comm side zoom ▸ hd)
    exact ⟨d / zoom, d % zoom, hr, Nat.mod_lt d hzoom, (Nat.div_add_mod' d zoom).symm⟩
  · rintro ⟨r, m, hr, hm, rfl⟩
    calc r * zoom + m < (r + 1) * zoom := by rw [Nat.succ_mul]; omega
      _ ≤ side * zoom := Nat.mul_le_mul_right zoom hr

/-- The same by pattern row and column, each zoomed (R776, R777). -/
theorem spriteLit_iff_pattern : spriteLit v i y x = true ↔
    ∃ r k m n : Nat, r < v.regs.spriteSide ∧ k < v.regs.spriteSide ∧ m < spriteZoom v.regs ∧ n < spriteZoom v.regs ∧
      (y : Int) = spriteTop (v.spriteAttr i 0) + (r * spriteZoom v.regs + m : Nat) ∧
      (x : Int) = v.spriteLeft i + (k * spriteZoom v.regs + n : Nat) ∧ v.spriteBit (v.spriteAttr i 2) r k = true := by
  have hzoom := zoom_pos v.regs
  have hdiv {r m : Nat} (hm : m < spriteZoom v.regs) : (r * spriteZoom v.regs + m) / spriteZoom v.regs = r := by
    rw [Nat.mul_comm, Nat.mul_add_div hzoom, Nat.div_eq_of_lt hm, Nat.add_zero]
  simp only [spriteLit_iff, spriteHeight_eq, lt_mul_zoom_iff hzoom]
  constructor
  · rintro ⟨_, _, hy, hx, ⟨r, m, hr, hm, rfl⟩, ⟨k, n, hk, hn, rfl⟩, hbit⟩
    rw [hdiv hm, hdiv hn] at hbit
    exact ⟨r, k, m, n, hr, hk, hm, hn, hy, hx, hbit⟩
  · rintro ⟨r, k, m, n, hr, hk, hm, hn, hy, hx, hbit⟩
    refine ⟨_, _, hy, hx, ⟨r, m, hr, hm, rfl⟩, ⟨k, n, hk, hn, rfl⟩, ?_⟩
    rwa [hdiv hm, hdiv hn]

/-- The pattern of a large sprite begins at a multiple of four names (R776). -/
theorem toNat_and_0xFC (b : Byte) : (b &&& 0xFC).toNat = b.toNat / 4 * 4 := by decide +revert

/-- The bit of a large pattern: left half, then right half 16 bytes on (R776). -/
theorem spriteBit_of_size16 (h : v.regs.size16 = true) (name : Byte) {r k : Nat} (hk : k < 16) :
    v.spriteBit name r k =
      (v.vr (v.tab.sprgen + toVAddr (name.toNat / 4 * 4 * 8) + toVAddr (r + 16 * (k / 8)))).getLsbD (7 - k % 8) := by
  rw [Vdp.spriteBit, if_pos h, toNat_and_0xFC]
  dsimp only
  split
  next hleft =>
    rw [leftBit, Nat.div_eq_of_lt hleft, Nat.mod_eq_of_lt hleft, Nat.mul_zero, Nat.add_zero]
  next hright =>
    have hdiv : k / 8 = 1 := by omega
    have hmod : k % 8 = k - 8 := by omega
    rw [leftBit, hdiv, hmod, Nat.mul_one, Nat.add_comm r]

/-- The bit of a small pattern (R776). -/
theorem spriteBit_of_size8 (h : v.regs.size16 = false) (name : Byte) (r k : Nat) :
    v.spriteBit name r k = (v.vr (v.tab.sprgen + toVAddr (name.toNat * 8 + r))).getLsbD (7 - k) := by
  rw [Vdp.spriteBit, h]
  rfl

theorem spriteBit_eq (name : Byte) {r k : Nat} (hk : k < v.regs.spriteSide) :
    v.spriteBit name r k =
      if v.regs.spriteSide = 16 then
        (v.vr (v.tab.sprgen + toVAddr (name.toNat / 4 * 4 * 8) + toVAddr (r + 16 * (k / 8)))).getLsbD (7 - k % 8)
      else (v.vr (v.tab.sprgen + toVAddr (name.toNat * 8 + r))).getLsbD (7 - k) := by
  cases hsize : v.regs.size16 with
  | true =>
    have hside : v.regs.spriteSide = 16 := if_pos hsize
    rw [if_pos hside, spriteBit_of_size16 hsize _ (hside ▸ hk)]
  | false =>
    have hside : v.regs.spriteSide = 8 := if_neg (Bool.eq_false_iff.1 hsize)
    rw [if_neg (by rw [hside]; decide), spriteBit_of_size8 hsize]

/-- Settles O58: `spriteLit_iff_pattern`, with the pattern bytes of the two sizes (`spriteBit_eq`). -/
theorem spritePixelsLieWhereTheAttributesPutThem : Obligations.SpritePixelsLieWhereTheAttributesPutThem := by
  intro v i y x
  refine spriteLit_iff_pattern.trans (exists₄_congr fun r k m n => ?_)
  refine and_congr_right fun _ => and_congr_right fun hk => and_congr_right fun _ => and_congr_right fun _ =>
    and_congr_right fun _ => and_congr_right fun _ => iff_of_eq (congrArg (· = true) (spriteBit_eq _ hk))

/-! ## Collision (R780, R781) -/

/-- `K` of R780: no terminator stands before it, and one stands there unless the table is full. -/
theorem spriteCount_spec (fuel i : Nat) :
    i ≤ spriteCount v fuel i ∧ spriteCount v fuel i ≤ i + fuel ∧ (∀ j, i ≤ j → j < spriteCount v fuel i → v.spriteY j ≠ 208) ∧
      (spriteCount v fuel i < i + fuel → v.spriteY (spriteCount v fuel i) = 208) := by
  induction fuel generalizing i with
  | zero => exact ⟨Nat.le_refl i, Nat.le_refl i, fun j h1 h2 => absurd h2 (Nat.not_lt.2 h1), fun h => absurd h (Nat.lt_irrefl i)⟩
  | succ fuel ih =>
    rw [spriteCount]
    split
    next hend => exact ⟨Nat.le_refl i, by omega, fun j h1 h2 => absurd h2 (Nat.not_lt.2 h1), fun _ => hend⟩
    next hgo =>
      obtain ⟨hle, hmax, hbefore, hat⟩ := ih (i + 1)
      refine ⟨by omega, by omega, fun j h1 h2 => ?_, fun h => hat (by omega)⟩
      obtain rfl | hlt := Nat.eq_or_lt_of_le h1
      · exact hgo
      · exact hbefore j hlt h2

/-- The positions of a square, as distances from its corner. -/
theorem mem_squareFrom {left top : Int} {n : Nat} {p : Int × Int} :
    p ∈ squareFrom left top n ↔ ∃ r c : Nat, r < n ∧ c < n ∧ p = (left + c, top + r) := by
  simp only [squareFrom, List.mem_flatMap, List.mem_map, List.mem_range]
  grind

/-- `Pix(i)` is the lit positions of sprite `i` on the screen (R781). -/
theorem mem_spritePixels {p : Nat × Nat} :
    p ∈ spritePixels v i ↔ p.1 < 256 ∧ p.2 < 192 ∧ spriteLit v i p.2 p.1 = true := by
  obtain ⟨x, y⟩ := p
  simp only [spritePixels, List.mem_map, List.mem_filter, mem_squareFrom, Bool.and_eq_true, decide_eq_true_eq, Prod.mk.injEq]
  constructor
  · rintro ⟨⟨px, py⟩, ⟨-, ⟨⟨⟨hx0, hx⟩, hy0⟩, hy⟩, hlit⟩, rfl, rfl⟩
    dsimp only at *
    exact ⟨by omega, by omega, hlit⟩
  · rintro ⟨hx, hy, hlit⟩
    obtain ⟨d, e, hd, he, hdlt, helt, -⟩ := spriteLit_iff.1 hlit
    exact ⟨(x, y), ⟨⟨d, e, hdlt, helt, by rw [hd, he]⟩, ⟨⟨⟨by omega, by omega⟩, by omega⟩, by omega⟩, hlit⟩, rfl, rfl⟩

theorem collidesWithLater_iff {pix : List (Nat × Nat)} {n j : Nat} :
    collidesWithLater v pix n j = true ↔ ∃ k, j ≤ k ∧ k < j + n ∧ ∃ p ∈ pix, spriteLit v k p.2 p.1 = true := by
  induction n generalizing j with
  | zero =>
    simp only [collidesWithLater]
    grind
  | succ n ih =>
    simp only [collidesWithLater, Bool.or_eq_true, List.any_eq_true, ih]
    constructor
    · rintro (h | ⟨k, hjk, hk, h⟩)
      · exact ⟨j, Nat.le_refl j, by omega, h⟩
      · exact ⟨k, by omega, by omega, h⟩
    · rintro ⟨k, hjk, hk, h⟩
      obtain rfl | hlt := Nat.eq_or_lt_of_le hjk
      · exact .inl h
      · exact .inr ⟨k, hlt, by omega, h⟩

theorem checkCollision_iff : checkCollision v = true ↔
    ∃ i j x y : Nat,
      i < j ∧ j < spriteCount v 32 0 ∧ x < 256 ∧ y < 192 ∧ spriteLit v i y x = true ∧ spriteLit v j y x = true := by
  simp only [checkCollision, List.any_eq_true, List.mem_range, collidesWithLater_iff, mem_spritePixels]
  constructor
  · rintro ⟨i, hi, j, hij, hj, ⟨x, y⟩, ⟨hx, hy, hlit⟩, hlit'⟩
    exact ⟨i, j, x, y, hij, by omega, hx, hy, hlit, hlit'⟩
  · rintro ⟨i, j, x, y, hij, hj, hx, hy, hlit, hlit'⟩
    exact ⟨i, by omega, j, hij, by omega, (x, y), ⟨hx, hy, hlit⟩, hlit'⟩

/-- Settles O59: `spriteCount_spec` for the entries that count, `checkCollision_iff` for the shared position. -/
theorem collisionMeansASharedPixel : Obligations.CollisionMeansASharedPixel := by
  intro v
  obtain ⟨-, hmax, hbefore, hat⟩ := spriteCount_spec (v := v) 32 0
  exact ⟨spriteCount v 32 0, by omega, fun i hi => hbefore i (Nat.zero_le i) hi, fun h => hat (by omega), checkCollision_iff⟩

end Sys2Proof.Machine
end

/-! The sprite scan of a line as one state after each entry: the count, the mask and the fifth-sprite latch (R770 to R774). -/
section
namespace Sys2Proof.Machine

variable {v : Vdp} {y i k limit : Nat}

/-- Whether the scan counts entry `i`: no terminator up to it, and it covers the line (R770, R773). -/
def counted (v : Vdp) (y i : Nat) : Bool :=
  decide ((∀ j, j ≤ i → v.spriteY j ≠ 208) ∧ spriteCovers v.regs (v.spriteY i) y = true)

/-- How many of the first `k` entries the scan counts. -/
def countedBefore (v : Vdp) (y k : Nat) : Nat := ((List.range k).filter (counted v y)).length

theorem countedBefore_succ (v : Vdp) (y k : Nat) :
    countedBefore v y (k + 1) = countedBefore v y k + if counted v y k = true then 1 else 0 := by
  simp only [countedBefore, List.range_succ, List.filter_append, List.length_append]
  cases h : counted v y k <;> simp [h]

theorem countedBefore_mono (v : Vdp) (y : Nat) : Monotone (countedBefore v y) :=
  monotone_nat_of_le_succ fun k => by
    rw [countedBefore_succ]
    exact Nat.le_add_right _ _

/-- The rank of a counted entry is above the count before it. -/
theorem rank_of_counted (h : counted v y i = true) : countedBefore v y (i + 1) = countedBefore v y i + 1 := by
  rw [countedBefore_succ, if_pos h]

/-- Once five entries are counted, one of them is the fifth. -/
theorem exists_fifth (h : 5 ≤ countedBefore v y k) : ∃ i, i < k ∧ counted v y i = true ∧ countedBefore v y (i + 1) = 5 := by
  induction k with
  | zero => exact absurd h (by simp [countedBefore])
  | succ k ih =>
    by_cases hk : 5 ≤ countedBefore v y k
    · obtain ⟨i, hi, hrest⟩ := ih hk
      exact ⟨i, Nat.lt_succ_of_lt hi, hrest⟩
    · rw [countedBefore_succ] at h
      have hc : counted v y k = true := by
        by_contra hn
        rw [if_neg hn] at h
        omega
      refine ⟨k, k.lt_succ_self, hc, ?_⟩
      rw [if_pos hc] at h
      rw [rank_of_counted hc]
      omega

/-! ## The state of the scan -/

/-- The scan after its first `k` entries. -/
def scanAfter (limit : Nat) (v : Vdp) (y : Nat) : Nat → Scan
  | 0 => ⟨0, 0, v.vstat⟩
  | k + 1 => if counted v y k = true then (scanAfter limit v y k).hit limit k else scanAfter limit v y k

/-- From a terminator on nothing is counted (R773). -/
theorem counted_of_terminator (h : v.spriteY i = 208) {j : Nat} (hj : i ≤ j) : counted v y j = false :=
  decide_eq_false fun ⟨hno, _⟩ => hno i hj h

theorem counted_of_no_terminator (h : ∀ j, j ≤ i → v.spriteY j ≠ 208) :
    counted v y i = spriteCovers v.regs (v.spriteY i) y := by
  rw [counted, Bool.decide_and, decide_eq_true h, Bool.true_and, Bool.decide_eq_true]

theorem scanAfter_of_terminator (h : v.spriteY i = 208) (n : Nat) : scanAfter limit v y (i + n) = scanAfter limit v y i := by
  induction n with
  | zero => rfl
  | succ n ih =>
    rw [Nat.add_succ, scanAfter, counted_of_terminator h (Nat.le_add_right i n), ih]
    rfl

/-- The loop of the scan goes through these states (R770). -/
theorem scanFrom_scanAfter (fuel : Nat) (h : ∀ j, j < i → v.spriteY j ≠ 208) :
    scanFrom limit v y fuel i (scanAfter limit v y i) = scanAfter limit v y (i + fuel) := by
  induction fuel generalizing i with
  | zero => rfl
  | succ fuel ih =>
    rw [scanFrom]
    split
    next hend => exact (scanAfter_of_terminator hend _).symm
    next hgo =>
      have hno : ∀ j, j < i + 1 → v.spriteY j ≠ 208 := fun j hj => by
        obtain hlt | rfl := Nat.lt_succ_iff_lt_or_eq.1 hj
        · exact h j hlt
        · exact hgo
      rw [← counted_of_no_terminator fun j hj => hno j (Nat.lt_succ_of_le hj)]
      exact (ih hno).trans (by rw [Nat.succ_add_eq_add_succ])

theorem scanLine_eq (cfg : Config) (y : Nat) (v : Vdp) :
    scanLine cfg y v =
      ((scanAfter cfg.maxSprites v y 32).mask, { v with vstat := (scanAfter cfg.maxSprites v y 32).vstat }) := by
  have h := scanFrom_scanAfter (limit := cfg.maxSprites) (v := v) (y := y) (i := 0) 32 fun j hj => absurd hj (Nat.not_lt_zero j)
  simp only [Nat.zero_add] at h
  rw [← h]
  rfl

theorem scanAfter_n (k : Nat) : (scanAfter limit v y k).n = countedBefore v y k := by
  induction k with
  | zero => rfl
  | succ k ih =>
    rw [scanAfter, countedBefore_succ]
    split
    · rw [Scan.hit, ih]
    · exact ih

theorem scanAfter_succ_mask (k : Nat) : (scanAfter limit v y (k + 1)).mask =
    if counted v y k = true ∧ countedBefore v y (k + 1) ≤ limit then (scanAfter limit v y k).mask ||| 1#32 <<< k
    else (scanAfter limit v y k).mask := by
  rw [scanAfter]
  cases hc : counted v y k with
  | true => simp [Scan.hit, scanAfter_n, rank_of_counted hc]
  | false => simp

theorem scanAfter_succ_vstat (k : Nat) : (scanAfter limit v y (k + 1)).vstat =
    if counted v y k = true ∧ countedBefore v y (k + 1) = 5 ∧ (scanAfter limit v y k).vstat.getLsbD 6 = false then
      fifthSprite (scanAfter limit v y k).vstat k
    else (scanAfter limit v y k).vstat := by
  rw [scanAfter]
  cases hc : counted v y k with
  | true => simp [Scan.hit, scanAfter_n, rank_of_counted hc]
  | false => simp

/-! ## The mask (R770) -/

theorem getLsbD_one_shiftLeft (i : Nat) (hk : k < 32) : (1#32 <<< k).getLsbD i = decide (i = k) := by
  rw [← BitVec.twoPow_eq, BitVec.getLsbD_twoPow]
  grind

/-- The mask holds the counted entries of low rank. -/
theorem scanAfter_mask (hk : k ≤ 32) (i : Nat) :
    (scanAfter limit v y k).mask.getLsbD i = true ↔ i < k ∧ counted v y i = true ∧ countedBefore v y (i + 1) ≤ limit := by
  induction k with
  | zero => simp [scanAfter]
  | succ k ih =>
    rw [scanAfter_succ_mask, Nat.lt_succ_iff_lt_or_eq, or_and_right, ← ih (Nat.le_of_succ_le hk)]
    split
    next hnew =>
      rw [BitVec.getLsbD_or, Bool.or_eq_true, getLsbD_one_shiftLeft i hk, decide_eq_true_iff]
      refine or_congr_right ⟨?_, And.left⟩
      rintro rfl
      exact ⟨rfl, hnew⟩
    next hold =>
      refine (or_iff_left ?_).symm
      rintro ⟨rfl, hnew⟩
      exact hold hnew

/-! ## The fifth-sprite latch (R774) -/

/-- A flag already set keeps its number. -/
theorem scanAfter_vstat_of_set (h : v.vstat.getLsbD 6 = true) (k : Nat) : (scanAfter limit v y k).vstat = v.vstat := by
  induction k with
  | zero => rfl
  | succ k ih => rw [scanAfter_succ_vstat, ih, if_neg fun ⟨_, _, hclear⟩ => Bool.eq_false_iff.1 hclear h]

/-- With fewer than five counted the status byte is as it was. -/
theorem scanAfter_vstat_of_few (h : countedBefore v y k < 5) : (scanAfter limit v y k).vstat = v.vstat := by
  induction k with
  | zero => rfl
  | succ k ih =>
    rw [scanAfter_succ_vstat, if_neg fun ⟨_, h5, _⟩ => Nat.ne_of_lt h h5]
    exact ih (Nat.lt_of_le_of_lt (countedBefore_mono v y k.le_succ) h)

/-- The fifth counted entry latches its number, once. -/
theorem scanAfter_vstat_of_fifth (hclear : v.vstat.getLsbD 6 = false) (hi : i < k) (hc : counted v y i = true)
    (h5 : countedBefore v y (i + 1) = 5) : (scanAfter limit v y k).vstat = fifthSprite v.vstat i := by
  induction k with
  | zero => exact absurd hi (Nat.not_lt_zero i)
  | succ k ih =>
    rw [scanAfter_succ_vstat]
    obtain hlt | rfl := Nat.lt_succ_iff_lt_or_eq.1 hi
    · have hmore : 5 ≤ countedBefore v y k := h5 ▸ countedBefore_mono v y hlt
      rw [if_neg, ih hlt]
      rintro ⟨hck, hk5, -⟩
      rw [rank_of_counted hck] at hk5
      omega
    · have hfew : countedBefore v y i < 5 := by
        rw [rank_of_counted hc] at h5
        omega
      rw [scanAfter_vstat_of_few hfew, if_pos ⟨hc, h5, hclear⟩]

theorem fifthSprite_eq (st : Byte) (hi : i < 32) : fifthSprite st i = (st &&& 0xA0) ||| 0x40 ||| BitVec.ofNat 8 i := by
  have h : (BitVec.ofNat 5 i).setWidth 8 = BitVec.ofNat 8 i :=
    BitVec.eq_of_toNat_eq (by simp only [BitVec.toNat_setWidth, BitVec.toNat_ofNat]; omega)
  rw [fifthSprite, h]

/-! ## The first visible index -/

theorem firstVisible_eq_some {mask : BitVec 32} :
    firstVisible mask = some i ↔ mask.getLsbD i = true ∧ ∀ j, j < i → mask.getLsbD j = false := by
  have hlt : mask.getLsbD i = true → i < 32 := BitVec.lt_of_getLsbD
  simp only [firstVisible, List.find?_range_eq_some, List.mem_range]
  grind

theorem firstVisible_eq_none {mask : BitVec 32} : firstVisible mask = none ↔ mask = 0 := by
  simp only [firstVisible, List.find?_range_eq_none]
  constructor
  · intro h
    refine BitVec.eq_of_getLsbD_eq fun i hi => ?_
    simpa using h i hi
  · rintro rfl
    simp

/-! ## The obligation -/

theorem spriteCovers_iff {r : VdpRegs} {yAttr : Byte} :
    spriteCovers r yAttr y = true ↔ spriteTop yAttr ≤ y ∧ (y : Int) < spriteTop yAttr + r.spriteHeight := by
  simp only [spriteCovers, Bool.and_eq_true, decide_eq_true_iff]

/-- The side of a sprite's square from its two register bits (R771). -/
theorem cast_spriteHeight (r : VdpRegs) :
    (r.spriteHeight : Int) = (if r.r1.getLsbD 1 = true then 16 else 8) * (if r.r1.getLsbD 0 = true then 2 else 1) := by
  simp only [VdpRegs.spriteHeight, VdpRegs.spriteSide, VdpRegs.magShift, VdpRegs.size16, VdpRegs.mag]
  by_cases hsize : r.r1.getLsbD 1 = true <;> by_cases hmag : r.r1.getLsbD 0 = true <;> simp [hsize, hmag]

/-- An entry is the terminator when its first byte is 208 (R773). -/
theorem toNat_spriteY_ne_iff : (v.spriteY i).toNat ≠ 208 ↔ v.spriteY i ≠ 208 :=
  not_congr (BitVec.toNat_inj (y := (208 : Byte)))

/-- Settles O56: the scan as `scanAfter`, its mask by `scanAfter_mask`, its status byte by the three cases of the latch. -/
theorem spriteScanFindsTheVisibleSprites : Obligations.SpriteScanFindsTheVisibleSprites := by
  intro cfg y v height attrY top counted' rank w
  have hcounted : counted' = counted v y := funext fun i => by
    refine decide_eq_decide.2 (and_congr ?_ ?_)
    · exact forall₂_congr fun j _ => toNat_spriteY_ne_iff
    · rw [spriteCovers_iff, cast_spriteHeight]
      rfl
  have hrank (i : Nat) : rank i = countedBefore v y (i + 1) := by
    simp only [rank, hcounted]
    rfl
  have hw : w = _ := scanLine_eq cfg y v
  simp only [hcounted, hrank, hw]
  refine ⟨fun i hi => ?mask, firstVisible_eq_none, fun i => firstVisible_eq_some, trivial, fun h => scanAfter_vstat_of_set h 32,
    fun _ hnone => ?few, fun h i hi hc h5 => ?fifth⟩
  case mask => exact (scanAfter_mask (Nat.le_refl 32) i).trans (and_iff_right hi)
  case few =>
    refine scanAfter_vstat_of_few (Nat.lt_of_not_le fun hmany => ?_)
    obtain ⟨i, hi, hfifth⟩ := exists_fifth hmany
    exact hnone i hi hfifth
  case fifth => exact (scanAfter_vstat_of_fifth h hi hc h5).trans (fifthSprite_eq _ hi)

end Sys2Proof.Machine
end

/-! Every instruction completes and keeps what is the driver's (R820), the fetch always finds an instruction (R183), and so a step
stops only at a sample point whose vector byte is no restart opcode (R831, R834). -/
section
namespace Sys2Proof.Machine

variable {s t : State} {c : Cpu}

/-! ## What the driver owns -/

/-- From `s` to `t` the fields of the driver stay: where its iteration stands, the call in progress, the answers of `PollHook`. -/
structure KeepsDriver (s t : State) : Prop where
  phase : t.phase = s.phase
  quota : t.quota = s.quota
  inTurn : t.inTurn = s.inTurn
  polls : t.polls = s.polls

theorem KeepsDriver.trans {u : State} (h : KeepsDriver s t) (k : KeepsDriver t u) : KeepsDriver s u :=
  ⟨k.phase.trans h.phase, k.quota.trans h.quota, k.inTurn.trans h.inTurn, k.polls.trans h.polls⟩

/-- No access reaches the driver, and no change of a CPU record does. -/
theorem CpuRuns.keepsDriver (h : CpuRuns s c t) : KeepsDriver s t := by
  induction h with
  | refl => exact ⟨rfl, rfl, rfl, rfl⟩
  | onZ _ f ih | onM _ f ih | emit _ e ih | tick _ ih => exact ih.trans ⟨rfl, rfl, rfl, rfl⟩
  | read _ a ih => exact ih.trans ⟨memRead_phase _ a, memRead_quota _ a, memRead_inTurn _ a, memRead_polls _ a⟩
  | write _ a v ih => exact ih.trans ⟨memWrite_phase _ a v, memWrite_quota _ a v, memWrite_inTurn _ a v, memWrite_polls _ a v⟩
  | input _ p ih => exact ih.trans ⟨portIn_phase _ p, portIn_quota _ p, portIn_inTurn _ p, portIn_polls _ p⟩
  | output _ p v ih => exact ih.trans ⟨portOut_phase _ p v, portOut_quota _ p v, portOut_inTurn _ p v, portOut_polls _ p v⟩

/-- Settles O7: `exec_completes`, and what a run of a CPU keeps. -/
theorem everyInstructionCompletes : Obligations.EveryInstructionCompletes := by
  intro i s
  obtain ⟨t, ht, hruns⟩ := exec_completes (s := s) i
  obtain ⟨hz, hm⟩ := hruns.otherRecord
  have hd := hruns.keepsDriver
  exact ⟨t, ht, hruns.keepsVdpLegal.cfg, hd.phase, hd.quota, hd.inTurn, hruns.keepsVdpLegal.lines, hd.polls, hm, hz⟩

/-! ## Four bytes hold an instruction (R183, R220) -/

theorem exists_two_cons : ∀ {l : List Byte}, 2 ≤ l.length → ∃ b0 b1 rest, l = b0 :: b1 :: rest
  | b0 :: b1 :: rest, _ => ⟨b0, b1, rest, rfl⟩

/-- With two operand bytes to read, a decoder answers an instruction. -/
theorem Reads.answers {pre rest more : List Byte} {op : Byte} {r r' : Except DecodeError Instr}
    (h : Reads c pre op rest more r r') (hrest : 2 ≤ rest.length) : ∃ i, r = .ok i := by
  obtain ⟨b0, b1, rest, rfl⟩ := exists_two_cons hrest
  cases h <;> exact ⟨_, rfl⟩

theorem decodeZ80_answers (b0 b1 b2 b3 : Byte) : ∃ i, decodeZ80 [b0, b1, b2, b3] = .ok i := by
  have htwo : 2 ≤ [b2, b3].length := Nat.le_refl 2
  unfold decodeZ80
  dsimp only
  split
  next => exact ⟨_, rfl⟩
  next => exact (decodeEd_reads (more := [])).answers htwo
  next => exact (decodeXy_reads (more := [])).answers htwo
  next => exact (decodeXy_reads (more := [])).answers htwo
  next hcb hed hdd hfd => exact (decodeMain_reads (more := []) hcb hed hdd hfd).answers (Nat.le_add_left 2 1)

/-- Four bytes start with an instruction of either variant. -/
theorem decode_answers (c : Cpu) {bytes : List Byte} (h : bytes.length = 4) : ∃ i, decode c bytes = .ok i := by
  match bytes, h with
  | [b0, b1, b2, b3], _ =>
    cases c with
    | z80 => exact decodeZ80_answers b0 b1 b2 b3
    | m6502 => exact (decodeM6502_reads (more := [])).answers (Nat.le_add_left 2 1)

/-- A fetch that may still read up to four bytes finds an instruction. -/
theorem fetchFrom_finds (pc : Word) {n : Nat} {bytes : List Byte} (h : bytes.length + (n + 1) = 4) (s : State) :
    ∃ i s1, fetchFrom c pc (n + 1) bytes s = (some i, s1) := by
  induction n generalizing bytes s with
  | zero =>
    simp only [fetchFrom]
    obtain ⟨i, hi⟩ := decode_answers c (bytes := bytes ++ [(memRead (pc + BitVec.ofNat 16 bytes.length) s).1]) (by simpa using h)
    rw [hi]
    exact ⟨i, _, rfl⟩
  | succ n ih =>
    simp only [fetchFrom]
    split
    next i _ => exact ⟨i, _, rfl⟩
    next => exact ih (by simp; omega) _

theorem fetch_finds (s : State) : ∃ i s1, fetch s = (some i, s1) := fetchFrom_finds s.pc rfl s

/-! ## The one refusal (R834) -/

/-- A result is a next state, or on the Z80 the refusal of a mode 0 vector. -/
def StopsOnlyOnVector (c : Cpu) : Result → Prop
  | .next _ => True
  | .fault _ => False
  | .refused q => q = .im0VectorNotRst ∧ c = .z80

theorem Completes.stopsOnlyOnVector {r : Result} {c' : Cpu} (h : Completes s c r) : StopsOnlyOnVector c' r := by
  obtain ⟨t, rfl, -⟩ := h
  trivial

theorem atSample_stopsOnlyOnVector {a : Accepted} {k : State → State} (h : a = .refused → c = .z80) :
    StopsOnlyOnVector c (atSample a k) := by
  cases a with
  | ok | stop => trivial
  | refused => exact ⟨rfl, h rfl⟩

theorem acceptM_ne_refused (s : State) : acceptM s ≠ .refused := by
  unfold acceptM
  repeat' split
  all_goals exact Accepted.noConfusion

theorem graceEnd_stopsOnlyOnVector (s : State) : StopsOnlyOnVector .z80 (graceEnd s) := by
  unfold graceEnd
  split
  · exact atSample_stopsOnlyOnVector fun _ => rfl
  · trivial

theorem stepZ80_stopsOnlyOnVector (s : State) : StopsOnlyOnVector .z80 (stepZ80 s) := by
  obtain ⟨i, s1, hf⟩ := fetch_finds s
  obtain ⟨t, ht, -⟩ := exec_completes (s := beginZ i s1) i
  unfold stepZ80
  split
  · trivial
  · rw [hf]
    dsimp only
    rw [ht, finishZ]
    split
    · exact graceEnd_stopsOnlyOnVector t
    · trivial

theorem stepM6502_stopsOnlyOnVector (s : State) : StopsOnlyOnVector .m6502 (stepM6502 s) := by
  obtain ⟨i, s1, hf⟩ := fetch_finds s
  rw [stepM6502, hf]
  exact (exec_completes i).stopsOnlyOnVector

theorem executeEntry_stopsOnlyOnVector (s : State) : StopsOnlyOnVector s.cfg.cpu (executeEntry s) := by
  unfold executeEntry
  split
  next hc => exact atSample_stopsOnlyOnVector fun _ => hc
  next => exact atSample_stopsOnlyOnVector fun h => absurd h (acceptM_ne_refused _)

theorem executeLoop_stopsOnlyOnVector (s : State) : StopsOnlyOnVector s.cfg.cpu (executeLoop s) := by
  cases hc : s.cfg.cpu with
  | z80 =>
    rw [executeLoop_z80 hc]
    split
    · exact stepZ80_stopsOnlyOnVector s
    · exact atSample_stopsOnlyOnVector fun _ => rfl
  | m6502 =>
    rw [executeLoop_m6502 hc]
    split
    · exact stepM6502_stopsOnlyOnVector s
    · exact atSample_stopsOnlyOnVector fun h => absurd h (acceptM_ne_refused _)

theorem step_stopsOnlyOnVector (s : State) : StopsOnlyOnVector s.cfg.cpu (step s) := by
  unfold step
  split
  · trivial
  · exact executeEntry_stopsOnlyOnVector s
  · exact executeLoop_stopsOnlyOnVector s
  · trivial
  · trivial

/-! ## When the entry sample point refuses -/

theorem intEntry_refused_iff {v : Byte} : intEntry v s = .refused ↔ s.z.im = .im0 ∧ v &&& 0xC7 ≠ 0xC7 := by
  unfold intEntry isRst
  cases him : s.z.im with
  | im0 =>
    simp only [beq_iff_eq]
    split
    next hv => exact iff_of_false nofun fun ⟨_, h⟩ => h hv
    next hv => exact iff_of_true rfl ⟨trivial, hv⟩
  | im1 | im2 => simp

theorem acceptZ_refused_iff : acceptZ s = .refused ↔
    s.ic.quit = false ∧ s.ic.nmi = false ∧ s.z.iff1 = true ∧ s.z.im = .im0 ∧ ∃ v, s.ic.int = some v ∧ v &&& 0xC7 ≠ 0xC7 := by
  cases hquit : s.ic.quit with
  | true => simp [acceptZ_quit hquit]
  | false =>
    cases hnmi : s.ic.nmi with
    | true => simp [acceptZ_nmi hquit hnmi]
    | false =>
      cases hint : s.ic.int with
      | none => simp [acceptZ_none hquit hnmi hint]
      | some v =>
        rw [acceptZ_int hquit hnmi hint]
        split
        next hiff => simp [intEntry_refused_iff, hiff]
        next hiff => simp [hiff]

theorem atSample_refused_iff {a : Accepted} {k : State → State} :
    atSample a k = .refused .im0VectorNotRst ↔ a = .refused := by
  cases a <;> simp [atSample]

/-- Settles O6: a step stops only on a vector (`step_stopsOnlyOnVector`), and the entry sample point just when `Accept`
refuses. -/
theorem stepStopsOnlyOnAnUnknownVector : Obligations.StepStopsOnlyOnAnUnknownVector := by
  refine ⟨fun s r h => ?_, fun s q h => ?_, fun s hp hc => ?_⟩
  · exact (h ▸ step_stopsOnlyOnVector s : StopsOnlyOnVector s.cfg.cpu (.fault r))
  · exact (h ▸ step_stopsOnlyOnVector s : StopsOnlyOnVector s.cfg.cpu (.refused q))
  · rw [step_execEntry hp, executeEntry, hc]
    exact atSample_refused_iff.trans acceptZ_refused_iff

end Sys2Proof.Machine
end

/-! `Reset` in any state, part by part, and from power-on (R900 to R905). -/
section
namespace Sys2Proof.Machine

variable {s : State} {cfg : Config}

/-! ## The VDP (R904) -/

/-- A masked bank holds each register under its mask (R692). -/
theorem get_masked (r : VdpRegs) (n : BitVec 3) : r.masked.get n = r.get n &&& regMask n := by
  rcases regCode_cases n with rfl | rfl | rfl | rfl | rfl | rfl | rfl | rfl <;> rfl

theorem vdpReset_coherent (cfg : Config) : VdpCoherent cfg (Vdp.reset cfg) := ⟨rfl, rfl, rfl, rfl⟩

theorem eq_zero_of_mem_vdpReset_fb {row : List Pixel} {p : Pixel} (hrow : row ∈ (Vdp.reset cfg).fb) (hp : p ∈ row) : p = 0 := by
  obtain rfl := List.eq_of_mem_replicate hrow
  exact List.eq_of_mem_replicate hp

theorem vdpReset_frameShape (cfg : Config) : FrameShape (Vdp.reset cfg).fb := by
  refine ⟨List.length_replicate, fun row hrow => ?_⟩
  rw [List.eq_of_mem_replicate hrow]
  exact List.length_replicate

/-! ## The machine (R900 to R903) -/

/-- `Reset` of a 6502 machine, with the two reads of its vector (R135, R902). -/
theorem resetMachine_m6502_reads (h : s.cfg.cpu = .m6502) :
    let base := { s with
      vdp := Vdp.reset s.cfg, ic := Pending.reset, events := .backdrop (Vdp.reset s.cfg).bg :: s.events }
    let lo := memRead 0xFFFC base
    let hi := memRead 0xFFFD lo.2
    resetMachine s = { hi.2 with m := M6502.reset (mk16 hi.1 lo.1) } := by
  rw [resetMachine_m6502 h]
  rfl

/-- The line constants are the machine's own where it overrides them (R905). -/
theorem lineConstants_of_override {l : LineConstants} (h : cfg.lineOverride = some l) : cfg.lineConstants = l := by
  rw [Config.lineConstants, h]
  rfl

/-- With no override they are the region's (R905). -/
theorem lineConstants_of_region (h : cfg.lineOverride = none) : cfg.lineConstants = cfg.region.lineConstants := by
  rw [Config.lineConstants, h]
  rfl

/-- From power-on `Reset` meets every invariant of runs. -/
theorem resetWith_invariants (hwf : cfg.wf = true) :
    let s := State.resetWith cfg
    InputsLegal s ∧ RamCanonical s ∧ VramCanonical s.vdp ∧ VdpLegal cfg s.vdp ∧ GraceLegal s := by
  have hcanonical : Canonical (State.resetWith cfg) := resetMachine_canonical (s := State.powerOn cfg) ⟨rfl, rfl⟩
  have hlines : (State.resetWith cfg).lines = [] := resetMachine_lines
  refine ⟨fun line hl => ?_, hcanonical.ram, hcanonical.vram, resetMachine_legal (s := State.powerOn cfg) hwf,
    .of_closed (resetMachine_grace rfl)⟩
  rw [hlines] at hl
  cases hl

/-- Settles O11: `Vdp.reset` for the VDP, `resetMachine_z80` and `resetMachine_m6502_reads` for the two variants,
`resetWith_invariants` from power-on. -/
theorem resetGivesTheStatedValues : Obligations.ResetGivesTheStatedValues := by
  refine ⟨(resetMachine_z80 rfl).symm, rfl, fun s => ?values, fun cfg => ?lines, fun cfg hwf => ?powerOn⟩
  case values =>
    refine ⟨Vdp.reset s.cfg, ⟨fun _ => rfl, vdpReset_frameShape _, fun row hrow p hp => eq_zero_of_mem_vdpReset_fb hrow hp, rfl,
      rfl, rfl, rfl, rfl, rfl, get_masked _, vdpReset_coherent _⟩, fun hc => ?_, fun hc => ?_, resetMachine_mem, resetMachine_cfg⟩
    · rw [resetMachine_z80 hc]
      exact ⟨rfl, rfl, rfl, rfl, rfl, rfl, rfl, rfl, rfl, rfl, rfl, rfl, rfl, rfl⟩
    · rw [resetMachine_m6502_reads hc]
      exact ⟨rfl, rfl, rfl, rfl, rfl, by simp⟩
  case lines =>
    unfold Config.totalLines Config.startLine Config.endLine
    refine ⟨fun ho hr => ?_, fun ho hr => ?_, fun l ho => ?_⟩
    · rw [lineConstants_of_region ho, hr]
      exact ⟨rfl, rfl, rfl⟩
    · rw [lineConstants_of_region ho, hr]
      exact ⟨rfl, rfl, rfl⟩
    · rw [lineConstants_of_override ho]
      exact ⟨rfl, rfl, rfl⟩
  case powerOn => exact ⟨rfl, resetMachine_cfg, resetMachine_mem, resetWith_invariants hwf⟩

end Sys2Proof.Machine
end

/-! `Execute` and the driver's iteration, phase by phase (R827 to R830, R837, R842, R843, R857, R927). -/
section
namespace Sys2Proof.Machine

variable {s t u : State}

/-! ## Turns (R827, R927) -/

theorem startIteration_nil (h : s.lines = []) : startIteration s = startTurn s.cfg.lineCycles true s := by
  rw [startIteration, h]

theorem startIteration_cons {line : DriverLine} {rest : List DriverLine} (h : s.lines = line :: rest) :
    startIteration s = startTurn line.budget line.inTurn (runActions line.actions { s with lines := rest }) := by
  rw [startIteration, h]

/-- A turn begins with the half that the configuration puts first; out of turn with `Execute`. -/
theorem startTurn_eq (hcfg : u.cfg = s.cfg) (budget : Nat) (inTurn : Bool) :
    startTurn budget inTurn u = { u with
      phase := if inTurn = true ∧ ¬s.cfg.order = .cpuThenVdp then .scanline else .execEntry
      quota := budget
      inTurn := inTurn } := by
  rw [startTurn, firstHalf_eq, hcfg]

theorem scripted_turn {line : DriverLine} {rest : List DriverLine} (h : s.lines = line :: rest) :
    startIteration s = { runActions line.actions { s with lines := rest } with
      phase := if line.inTurn = true ∧ ¬s.cfg.order = .cpuThenVdp then .scanline else .execEntry
      quota := line.budget
      inTurn := line.inTurn } := by
  rw [startIteration_cons h, startTurn_eq (runActions_cfg line.actions)]

theorem whileStopped_nil (h : s.lines = []) : whileStopped s = s := if_pos h

theorem whileStopped_cons {line : DriverLine} {rest : List DriverLine} (h : s.lines = line :: rest) :
    whileStopped s = startIteration s := if_neg (by rw [h]; exact List.cons_ne_nil line rest)

theorem afterScanline_eq (cfg : Config) :
    afterScanline cfg = if cfg.order = .cpuThenVdp then .iterStart else .execEntry := by
  cases h : cfg.order <;> simp [afterScanline, h]

/-! ## Sample points (R830, R842, R857) -/

/-- A sample point leaves the driver's fields alone. -/
theorem accept_ok_keepsDriver (h : accept s = .ok t) : KeepsDriver s t := by
  have hlatch (ic : Pending) : KeepsDriver s { s with ic := ic } := ⟨rfl, rfl, rfl, rfl⟩
  cases hc : s.cfg.cpu with
  | z80 =>
    obtain ⟨-, ⟨-, rfl⟩ | ⟨-, -, v, -, hentry⟩ | ⟨-, -, rfl⟩⟩ := acceptZ_ok (accept_z80 hc ▸ h)
    · exact (hlatch _).trans (nmiEntry_runs .refl).keepsDriver
    · exact (hlatch _).trans (intEntry_runs hentry).keepsDriver
    · exact ⟨rfl, rfl, rfl, rfl⟩
  | m6502 =>
    obtain ⟨-, ⟨-, rfl⟩ | ⟨-, -, -, rfl⟩ | ⟨-, -, rfl⟩⟩ := acceptM_ok (accept_m6502 hc ▸ h)
    · exact (hlatch _).trans (entry6502_runs .refl _).keepsDriver
    · exact (hlatch _).trans (entry6502_runs .refl _).keepsDriver
    · exact ⟨rfl, rfl, rfl, rfl⟩

/-- The end of an `Execute`: the other half of the iteration when it comes second (R827). -/
theorem endExecute_eq (hcfg : u.cfg = s.cfg) (hturn : u.inTurn = s.inTurn) :
    endExecute u =
      ({ u with phase := if s.inTurn = true ∧ s.cfg.order = Order.cpuThenVdp then .scanline else .iterStart }).emit
        (.executed u.pc false) := by
  rw [endExecute, afterExecute_eq, hcfg, hturn]

/-- The end sample point on a state with the configuration and the turn of `s`: it ends the call, or stops it (R828, R842). -/
theorem atSample_endExecute {r : Result} (hr : r = atSample (accept u) endExecute) (hcfg : u.cfg = s.cfg)
    (hturn : u.inTurn = s.inTurn) :
    (∀ w, accept u = .ok w → r = .next (
      ({ w with phase := if s.inTurn = true ∧ s.cfg.order = Order.cpuThenVdp then .scanline else .iterStart }).emit
        (.executed w.pc false))) ∧
    (∀ w, accept u = .stop w → r = .next (({ w with phase := .stopped }).emit (.executed w.pc true))) := by
  refine ⟨fun w hw => ?_, fun w hw => ?_⟩
  · have hcfg' : w.cfg = s.cfg := (accept_ok_keepsVdpLegal hw).cfg.trans hcfg
    have hturn' : w.inTurn = s.inTurn := (accept_ok_keepsDriver hw).inTurn.trans hturn
    rw [hr, hw, ← endExecute_eq hcfg' hturn']
    rfl
  · rw [hr, hw]
    rfl

/-! ## `Execute` (R828, R842) -/

theorem executeEntry_z80 (hc : s.cfg.cpu = .z80) :
    executeEntry s = atSample (accept s) fun t => { t with phase := .execLoop }.onZ fun z =>
      { z with icount := z.icount + s.quota } := by
  rw [executeEntry, hc, accept_z80 hc]

theorem executeEntry_m6502 (hc : s.cfg.cpu = .m6502) :
    executeEntry s = atSample (accept (s.onM fun m => { m with cycLine := 0 })) fun t => { t with phase := .execLoop } := by
  rw [executeEntry, hc, accept_m6502 (s := s.onM _) hc]

/-- A halted Z80 spends the rest of its budget (R837). -/
theorem stepZ80_halted (hhalt : s.z.halted = true) (hcount : 0 < s.z.icount) :
    stepZ80 s = .next (s.onZ fun z => { z with icount := 0 }) := by
  rw [stepZ80, if_pos hhalt]
  exact congrArg Host.Outcome.next (State.onZ_congr (by rw [if_pos hcount]))

/-- The instruction fetched runs to a next state, inside the same call of `Execute`. -/
theorem fetchExec_runs {c : Cpu} (start : Instr → State → State) (hstart : ∀ i s1, CpuRuns s1 c (start i s1)) (s : State) :
    ∃ i s1 t, fetch s = (some i, s1) ∧ exec i (start i s1) = .next t ∧ KeepsDriver s t := by
  obtain ⟨i, s1, hf⟩ := fetch_finds s
  have hfetch : CpuRuns s c s1 := by simpa only [hf] using fetch_runs (s := s) (c := c) .refl
  obtain ⟨t, ht, hruns⟩ := exec_completes (s := start i s1) i
  exact ⟨i, s1, t, hf, ht, (hfetch.keepsDriver.trans (hstart i s1).keepsDriver).trans hruns.keepsDriver⟩

theorem beginZ_runs (i : Instr) (s : State) : CpuRuns s .z80 (beginZ i s) := cycZ_runs (.onZ .refl _) _

theorem beginM_runs (i : Instr) (s : State) : CpuRuns s .m6502 (beginM i s) := cycM_runs (.onM .refl _) _

/-! ## The poll (R842, R843) -/

theorem poll_of_takePoll {r : PollReply} (h : takePoll s = (r, u)) :
    poll s = inject r.answer ((runCalls r.calls u).emit (.polled r.answer)) := by
  rw [poll, h]

theorem takePoll_cons {r : PollReply} {rest : List PollReply} (h : s.polls = r :: rest) :
    takePoll s = (r, { s with polls := rest }) := by
  rw [takePoll, h]

theorem takePoll_nil (h : s.polls = []) : takePoll s = (Config.pollReply s.tick, { s with tick := s.tick + 1 }) := by
  rw [takePoll, h]

theorem poll_inTurn : (poll s).inTurn = s.inTurn := by rw [poll_keeps]

/-- The end sample point of the 6502 is taken after the poll. -/
theorem step_m6502_end (hp : s.phase = .execLoop) (hc : s.cfg.cpu = .m6502) (hspent : s.quota ≤ s.m.cycLine) :
    step s = atSample (accept (poll s)) endExecute := by
  have hpoll : (poll s).cfg.cpu = .m6502 := (congrArg Config.cpu poll_keepsVdpLegal.cfg).trans hc
  rw [step_execLoop hp, executeLoop_m6502 hc, if_neg (Nat.not_lt.2 hspent), accept_m6502 hpoll]

theorem step_z80_end (hp : s.phase = .execLoop) (hc : s.cfg.cpu = .z80) (hspent : s.z.icount ≤ 0) :
    step s = atSample (accept s) endExecute := by
  rw [step_execLoop hp, executeLoop_z80 hc, if_neg (Int.not_lt.2 hspent), accept_z80 hc]

/-- Settles O48: one lemma per phase of the step, the two end sample points by `atSample_endExecute`. -/
theorem executeAndTheDriverIteration : Obligations.ExecuteAndTheDriverIteration := by
  intro s
  refine ⟨fun hp => ⟨fun line rest hl => ?_, fun hl => ?_⟩, fun hp => ⟨fun line rest hl => ?_, fun hl => ?_⟩,
    ⟨rfl, fun _ _ => rfl, rfl, fun _ _ => rfl, fun _ => rfl, rfl⟩, fun hp => ?scanline,
    fun hp => ⟨fun u hc hu => ?entryZ, fun u hc hu => ?stopZ, fun u hc hu => ?entryM, fun u hc hu => ?stopM⟩,
    fun hp => ⟨fun hc hhalt hcount => ?halted, fun hc hhalt hcount hgrace => ?runZ, fun hc hcount => ?runM,
      fun hc hspent => ?endZ, fun hc hspent => ?endM⟩⟩
  · rw [step_iterStart hp, scripted_turn hl]
  · rw [step_iterStart hp, startIteration_nil hl, startTurn_eq rfl]
  · rw [step_stopped hp, whileStopped_cons hl, scripted_turn hl]
  · rw [step_stopped hp, whileStopped_nil hl]
  case scanline => rw [step_scanline hp, scanlineHalf, afterScanline_eq]
  case entryZ | stopZ =>
    rw [step_execEntry hp, executeEntry_z80 hc, hu]
    rfl
  case entryM | stopM =>
    rw [step_execEntry hp, executeEntry_m6502 hc, hu]
    rfl
  case halted => rw [step_execLoop hp, executeLoop_z80 hc, if_pos hcount, stepZ80_halted hhalt hcount]
  case runZ =>
    obtain ⟨i, s1, t, hf, ht, hd⟩ := fetchExec_runs beginZ beginZ_runs s
    have hstep : step s = .next t := by
      rw [step_z80 hp hf hc hcount hhalt, finishZ_of_closed (.inl hgrace), ht]
    exact ⟨i, s1, t, hf, ht, hstep, hd.phase.trans hp, hd.quota, hd.inTurn⟩
  case runM =>
    obtain ⟨i, s1, t, hf, ht, hd⟩ := fetchExec_runs beginM beginM_runs s
    exact ⟨i, s1, t, hf, ht, (step_m6502 hp hf hc hcount).trans ht, hd.phase.trans hp, hd.quota, hd.inTurn⟩
  case endZ => exact atSample_endExecute (step_z80_end hp hc hspent) rfl rfl
  case endM =>
    have hend := atSample_endExecute (step_m6502_end hp hc hspent) poll_keepsVdpLegal.cfg poll_inTurn
    refine ⟨fun r rest hr => ?_, fun hr => ⟨Config.pollReply s.tick, ?_⟩⟩
    · rw [poll_of_takePoll (takePoll_cons hr)] at hend
      exact hend
    · rw [poll_of_takePoll (takePoll_nil hr)] at hend
      exact hend

end Sys2Proof.Machine
end
